-- ==== Sys2Proof/Word.lean ====
section
/-! DEFINITION. The widths the manual counts in: bytes on the bus and in the FIFO, the 16-bit
command word, the 16-bit word of the sweep adder. -/

namespace Sys2Proof

/-- One byte of the register bus or of the FIFO storage (R40, R42). -/
abbrev Byte := BitVec 8

/-- The word of the sweep unit's adder, `SWEEP_WORD = 16` bits (R5, R113; log 13). -/
abbrev SweepWord := BitVec 16

/-- An 11-bit period or rate operand (R14, R26). -/
abbrev Period := BitVec 11

end Sys2Proof
end

