-- ==== Sys2Proof/Config.lean ====
section
/-! DEFINITION. What is fixed for one machine: the four identities, the OPEN parameters of R5 (as
constants with no body, so that nothing can be proved of a value), and the two choices that only
`State.reset` uses. The parameters of R5 that the spec gives a value for (IDENTITY_MAP, MIN_PERIOD,
DUTY_TABLE, ENABLE_BIT, HALF_FRAME_PHASE, the default of LENGTH_TABLE) stand in Machine/Tables.lean, and
the address map (BASE, ENABLE_ADDR) in Decode.lean. FIFO_CAPACITY and LENGTH_TABLE are fields of State. -/

namespace Sys2Proof

/-- The four identities of a node; there are no others (R1, R12). -/
inductive Identity where
  | pulse1
  | pulse2
  | triangle
  | noise
deriving DecidableEq, Repr

/-- The two byte arrays of the ingest FIFO, `Q_ADDR` and `Q_DATA` (R9, R48). -/
inductive QArray where
  | addr
  | data
deriving DecidableEq, Repr

/-- `NOISE_PERIOD_TABLE`, 16 entries, OPEN (R5, R47, D6): the spec gives no entry and no width.
No rule of the block reads it; only the sample clock's rate depends on it. Log 25. -/
opaque Config.noisePeriodTable : BitVec 4 → Nat

/-- What a byte of the FIFO storage holds before anything is written to it: unspecified (R180,
U21 "any value"). Only a slot that no push has filled can read as this. Log 24. -/
opaque Config.powerOnByte : QArray → Nat → Byte

/-- The `CFG` input of the reset that leads to `State.reset`. DESIGN CHOICE, log 1; the event
`RESET(CFG)` is modelled for all four values. -/
def Config.resetCfg : BitVec 2 := 0

/-- `FIFO_CAPACITY = 2 ^ fifoLog2` in `State.reset`. DESIGN CHOICE, log 2: the spec leaves the
capacity OPEN, so State carries it and every statement is for every value of it. -/
def Config.resetFifoLog2 : Nat := 2

end Sys2Proof
end

