-- ==== Sys2Proof/Machine/Tables.lean ====
section
/-! DEFINITION. The parameters of R5 that the spec gives a value for: IDENTITY_MAP, ENABLE_BIT,
MIN_PERIOD, DUTY_TABLE, HALF_FRAME_PHASE, and the default of LENGTH_TABLE. They stand here and not in Config.lean so that
a test that shows one wrong can be answered by mending it. -/

namespace Sys2Proof.Machine

/-- `IDENTITY_MAP` (R5, R150): the spec's own decision D1. Log 8. -/
def identityMap (cfg : BitVec 2) : Identity :=
  match cfg.toNat with
  | 0 => .pulse1
  | 1 => .pulse2
  | 2 => .triangle
  | _ => .noise

/-- `ENABLE_BIT(id)` (R5, R62): general knowledge of the spec's writer, G3 and D3. Log 10. -/
def enableBit : Identity → Nat
  | .pulse1 => 0
  | .pulse2 => 1
  | .triangle => 2
  | .noise => 3

/-- `MIN_PERIOD(id)` (R5, R154): 8 for Pulse, 4 for Triangle, none for Noise. -/
def minPeriod : Identity → Option Nat
  | .pulse1 => some 8
  | .pulse2 => some 8
  | .triangle => some 4
  | .noise => none

/-- `DUTY_TABLE` (R45). -/
def dutyTable (dy : BitVec 2) : BitVec 4 :=
  match dy.toNat with
  | 0 => 2
  | 1 => 4
  | 2 => 8
  | _ => 12

/-- A `LENGTH_TABLE`: 32 entries of 8 bits (R46). -/
abbrev LengthTable := Vector Byte 32

/-- The default of the configuration field `LENGTH_TABLE` (R46). Entry 1 is the source's; the others are
the spec's G1, D5. Log 11. -/
def defaultLengthTable : LengthTable :=
  #v[10, 254, 20, 2, 40, 4, 80, 6, 160, 8, 60, 10, 14, 12, 26, 14,
    12, 16, 24, 18, 48, 20, 96, 22, 192, 24, 72, 26, 16, 28, 32, 30]

/-- `HALF_FRAME_PHASE` (R5, R111): the value of `frame_parity`, before it toggles, at which a frame edge
is also a half-frame edge. The spec's own decision D8. Log 12. -/
def halfFramePhase : Bool := true

end Sys2Proof.Machine
end

