-- ==== Sys2Proof/Syntax.lean ====
section
/-! DEFINITION. The instruction syntax: one constructor per row of spec/opcode_table.json, each with
the operand fields of R62. Ignored bits (R64) are operands too (`ign`), so that no bit of a command
word is lost. The five events (R7, R68) are rows of the table and constructors like the others. -/

namespace Sys2Proof

/-- One row of the opcode table, with its operands. The commands are named as R69 names them:
identity and register. -/
inductive Instr where
  /-- R81. `dy = v[7:6]`, `h = bit(v,5)`, `c = bit(v,4)`, `vol = v[3:0]`. -/
  | p1Reg0 (dy : BitVec 2) (h c : Bool) (vol : BitVec 4)
  /-- R83. `e = bit(v,7)`, `p = v[6:4]`, `n = bit(v,3)`, `sh = v[2:0]`. -/
  | p1Reg1 (e : Bool) (p : BitVec 3) (n : Bool) (sh : BitVec 3)
  /-- R85. `t = v[7:0]`. -/
  | p1Reg2 (t : Byte)
  /-- R87. `l = v[7:3]`, `t = v[2:0]`. -/
  | p1Reg3 (l : BitVec 5) (t : BitVec 3)
  /-- R82. -/
  | p2Reg0 (dy : BitVec 2) (h c : Bool) (vol : BitVec 4)
  /-- R84. -/
  | p2Reg1 (e : Bool) (p : BitVec 3) (n : Bool) (sh : BitVec 3)
  /-- R86. -/
  | p2Reg2 (t : Byte)
  /-- R88. -/
  | p2Reg3 (l : BitVec 5) (t : BitVec 3)
  /-- R89. `h = bit(v,7)`, `r = v[6:0]`. -/
  | triReg0 (h : Bool) (r : BitVec 7)
  /-- R90. All eight bits are ignored but stand in the note. -/
  | triReg1 (v : Byte)
  /-- R91. -/
  | triReg2 (t : Byte)
  /-- R92. -/
  | triReg3 (l : BitVec 5) (t : BitVec 3)
  /-- R93. `ign = v[7:6]`, ignored. -/
  | noiReg0 (ign : BitVec 2) (h c : Bool) (vol : BitVec 4)
  /-- R94. All eight bits are ignored but stand in the note. -/
  | noiReg1 (v : Byte)
  /-- R95. `m = bit(v,7)`, `ign = v[6:4]` ignored, `x = v[3:0]` the table index. -/
  | noiReg2 (m : Bool) (ign : BitVec 3) (x : BitVec 4)
  /-- R96. `l = v[7:3]`, `ign = v[2:0]` ignored. -/
  | noiReg3 (l : BitVec 5) (ign : BitVec 3)
  /-- R97 on a Pulse1 node; the whole value byte, of which one bit counts. -/
  | p1En (v : Byte)
  /-- R97 on a Pulse2 node. -/
  | p2En (v : Byte)
  /-- R97 on a Triangle node. -/
  | triEn (v : Byte)
  /-- R97 on a Noise node. -/
  | noiEn (v : Byte)
  /-- R98 on a Pulse1 node: any address that is none of the rows above. -/
  | p1Unk (a v : Byte)
  /-- R98 on a Pulse2 node. -/
  | p2Unk (a v : Byte)
  /-- R98 on a Triangle node. -/
  | triUnk (a v : Byte)
  /-- R98 on a Noise node. -/
  | noiUnk (a v : Byte)
  /-- R180: `RESET(CFG)`. -/
  | reset (cfg : BitVec 2)
  /-- R141: `PUSH(a, v)`. -/
  | push (a v : Byte)
  /-- R143: `POP`. -/
  | pop
  /-- R110: `FRAME`. -/
  | frame
  /-- R130: `SAMPLE`. -/
  | sample
deriving DecidableEq, Repr

/-- The five events that drive the node, each from its own agent (R7, R162). -/
inductive Event where
  /-- Reset / boot, with the 2-bit configuration input. -/
  | reset (cfg : BitVec 2)
  /-- The producer: one observed bus transaction. -/
  | push (a v : Byte)
  /-- The consumer: the polled main loop takes one pair. -/
  | pop
  /-- The frame clock: one edge. -/
  | frame
  /-- The sample clock: one tick of the timer. -/
  | sample
deriving DecidableEq, Repr

/-- The row of the opcode table that an event is. -/
def Event.toInstr : Event → Instr
  | .reset cfg => .reset cfg
  | .push a v => .push a v
  | .pop => .pop
  | .frame => .frame
  | .sample => .sample

/-- The identity column of the opcode table: whose command a row is; none for the event rows. -/
def Instr.identity : Instr → Option Identity
  | .p1Reg0 _ _ _ _ | .p1Reg1 _ _ _ _ | .p1Reg2 _ | .p1Reg3 _ _ | .p1En _ | .p1Unk _ _ => some .pulse1
  | .p2Reg0 _ _ _ _ | .p2Reg1 _ _ _ _ | .p2Reg2 _ | .p2Reg3 _ _ | .p2En _ | .p2Unk _ _ => some .pulse2
  | .triReg0 _ _ | .triReg1 _ | .triReg2 _ | .triReg3 _ _ | .triEn _ | .triUnk _ _ => some .triangle
  | .noiReg0 _ _ _ _ | .noiReg1 _ | .noiReg2 _ _ _ | .noiReg3 _ _ | .noiEn _ | .noiUnk _ _ => some .noise
  | .reset _ | .push _ _ | .pop | .frame | .sample => none

end Sys2Proof
end

