-- ==== Sys2Proof/Machine/State.lean ====
section
/-! DEFINITION. The state of one channel node as plain data (R10, R11, R48, R161), what a stop can be,
and the state after reset (R180). -/

namespace Sys2Proof.Machine

/-- One array of the FIFO storage: `(index, byte)` cells, indices strictly rising; an index that is not
listed has not been written since power-on (R48, R180). -/
abbrev Memory := List Host.Cell

/-- The canonical form of a memory: each index listed at most once, in rising order. -/
abbrev Memory.wf (m : Memory) : Prop := m.Pairwise (fun x y => x.1 < y.1)

/-- The two non-fatal outcomes, each with the pair it is about (R161, D23; log 23). -/
inductive Note where
  /-- Code 1. Raised by `POP` decoding a command of class UNKNOWN, or a Reg1 command on a Triangle or
  Noise node. -/
  | unknownRegister (a v : Byte)
  /-- Code 2. Raised by `PUSH` onto a full FIFO; the pair is the one dropped. -/
  | fifoOverflow (a v : Byte)
deriving DecidableEq, Repr

/-- Why the machine stops with a fault: never. "No command, no `FRAME`, no `SAMPLE`, no `PUSH` and no
`POP` can fault, trap, abort, stall or be refused" (R160), so the type has no constructor. -/
inductive Fault where
deriving DecidableEq, Repr

/-- Why an instruction is refused. -/
inductive Refusal where
  /-- Raised by an arm of `exec` for a row that has no meaning yet; no arm raises it now. Safe: the run
  stops, nothing is claimed of it. -/
  | notModelled (mnemonic : String)
deriving DecidableEq, Repr

/-- The whole state of a node. Field names are those of R11 and R48. A field that R11 gives to some
identities only is kept at its reset value on the others (log 7). -/
@[ext]
structure State where
  /-- Which channel the node is (R12). -/
  identity : Identity
  /-- Written by the enable command, read by no rule (R13). -/
  enabled : Bool
  /-- 11 bits; on Noise a table index of 4 bits (R14, R15). -/
  period : Period
  /-- 0..254 (R16). -/
  lengthCounter : BitVec 8
  /-- Halt of the length counter, loop of the envelope, control bit of the linear counter (R16). -/
  lengthCounterHalt : Bool
  /-- The output amplitude, written by `FRAME` only (R17). -/
  volume : BitVec 4
  /-- Constant volume (R18). -/
  envConstFlag : Bool
  /-- Envelope divider reload value and constant volume (R18). -/
  envReloadValue : BitVec 4
  /-- (R18) -/
  envDivider : BitVec 4
  /-- (R18) -/
  envVolume : BitVec 4
  /-- (R18) -/
  envReloadFlag : Bool
  /-- Number of high steps out of 16 (R19). -/
  dutyCycle : BitVec 4
  /-- (R20) -/
  sweepEnabled : Bool
  /-- (R20) -/
  sweepNegate : Bool
  /-- (R20) -/
  sweepShift : BitVec 3
  /-- (R20) -/
  sweepDividerPeriod : BitVec 4
  /-- (R20) -/
  sweepDividerCounter : BitVec 4
  /-- (R20) -/
  sweepReloadFlag : Bool
  /-- (R21) -/
  linearCounter : BitVec 7
  /-- (R21) -/
  linearCounterReloadValue : BitVec 7
  /-- (R21) -/
  linearCounterReloadFlag : Bool
  /-- The 15-bit LFSR, never 0 (R22). -/
  shiftRegister : BitVec 15
  /-- Selects the second feedback tap (R22). -/
  shiftMode : Bool
  /-- Toggled by every `FRAME` (R23). -/
  frameParity : Bool
  /-- (R24) -/
  pulseStep : BitVec 4
  /-- (R24) -/
  triStep : BitVec 5
  /-- The value last written to the DAC (R25). -/
  dacOut : BitVec 4
  /-- Whether the sample clock ticks (R26). -/
  clkRunning : Bool
  /-- The rate operand last given to the sample clock (R26). -/
  clkRate : Period
  /-- `Q_ADDR`, the address queue (R48). -/
  qAddr : Memory
  /-- `Q_DATA`, the value queue (R48). -/
  qData : Memory
  /-- The write index (R48). -/
  wr : Nat
  /-- The read index (R48), the position in the command stream (R28). -/
  rd : Nat
  /-- The occupancy count `k` (R48). -/
  count : Nat
  /-- How many `UnknownRegister` notes (R27, R161). -/
  unknownCount : Nat
  /-- How many `FifoOverflow` notes (R27, R161). -/
  overflowCount : Nat
  /-- The notes since reset, oldest first (R161). -/
  notes : List Note
  /-- THE MODEL'S OWN: `FIFO_CAPACITY = 2 ^ fifoLog2`, the OPEN parameter (R5, R140; log 2). No event
  writes it. -/
  fifoLog2 : Nat
  /-- THE MODEL'S OWN: the configuration field `LENGTH_TABLE` (R5, R46; log 11). No event writes it; its
  constraints are `TableWf`. -/
  lengthTable : LengthTable
  /-- THE MODEL'S OWN: whether `RESET` has happened, which it does "once, first" (R7, R180; log 26). -/
  booted : Bool
  /-- THE MODEL'S OWN: the events still to come, the next one first (R6, R164; log 3). -/
  script : List Event
deriving DecidableEq, Repr

/-- `FIFO_CAPACITY`: a power of two, at least 1 (R5, R140). -/
def State.fifoCapacity (s : State) : Nat := 2 ^ s.fifoLog2

/-- The state that `RESET(CFG)` leaves (R180), on a node whose FIFO holds `2 ^ fifoLog2` pairs and whose
length table is `table` and with the events of `script` still to come. `shift_register` is 1 on every identity, as R152 allows (log 6). -/
def State.boot (cfg : BitVec 2) (fifoLog2 : Nat) (table : LengthTable) (script : List Event) : State where
  identity := identityMap cfg
  lengthCounter := 0
  envDivider := 0
  envVolume := 0
  sweepDividerCounter := 0
  linearCounter := 0
  frameParity := false
  shiftRegister := 0x0001
  enabled := false
  period := 0
  lengthCounterHalt := false
  volume := 0
  envConstFlag := false
  envReloadValue := 0
  envReloadFlag := false
  dutyCycle := 0
  sweepEnabled := false
  sweepNegate := false
  sweepShift := 0
  sweepDividerPeriod := 0
  sweepReloadFlag := false
  linearCounterReloadValue := 0
  linearCounterReloadFlag := false
  shiftMode := false
  pulseStep := 0
  triStep := 0
  dacOut := 0
  clkRunning := false
  clkRate := 0
  qAddr := []
  qData := []
  wr := 0
  rd := 0
  count := 0
  unknownCount := 0
  overflowCount := 0
  notes := []
  fifoLog2 := fifoLog2
  lengthTable := table
  booted := true
  script := script

/-- The machine right after reset (R34, R180), with the input `CFG` of log 1, the capacity of log 2, the
default length table (R46) and no event to come yet (log 3). -/
def State.reset : State := State.boot Config.resetCfg Config.resetFifoLog2 defaultLengthTable []

end Sys2Proof.Machine
end

