-- ==== Sys2Proof/Machine/Boot.lean ====
section
/-! DEFINITION. `RESET(CFG)` (R180, R150 to R152, R182). -/

namespace Sys2Proof.Machine

/-- `RESET(CFG)` (R180): one atomic step that binds the identity and writes every field. The capacity
and the length table are the machine's own and stay; so do the events still to come. When it is enabled is
`State.enables`. Log 26. -/
def execReset (cfg : BitVec 2) (s : State) : Host.Outcome State Fault Refusal :=
  .next (State.boot cfg s.fifoLog2 s.lengthTable s.script)

end Sys2Proof.Machine
end

