-- ==== Sys2Proof/Machine/Flags.lean ====
section
/-! DEFINITION. The block has no condition codes (R29); its flags are conditions computed from Channel
State: whether the sample clock runs, whether a frame edge is a half-frame edge, whether a sweep target
is out of range, whether the triangle's gate is open, the LFSR's feedback, the pulse's high steps. -/

namespace Sys2Proof.Machine

/-- The run bit after a reprogram with rate operand `r` (R153, R154): at or above the minimum runs,
below it stops; Noise has no minimum and keeps its run bit. Log 15. -/
def runCondition (id : Identity) (r : Period) (running : Bool) : Bool :=
  match minPeriod id with
  | some m => decide (m ≤ r.toNat)
  | none => running

/-- `half` of R110 and R111, from `frame_parity` before it toggles. -/
def halfFrameEdge (parity : Bool) : Bool := parity == halfFramePhase

/-- The mute test of R114: `target > 0x7FF or S.period < 8`, on the wrapped 16-bit target. -/
def sweepOutOfRange (target : SweepWord) (period : Period) : Bool :=
  decide (0x7FF < target.toNat) || decide (period.toNat < 8)

/-- The pulse output is high: `S.pulse_step < S.duty_cycle` (R131). -/
def pulseHigh (step duty : BitVec 4) : Bool := decide (step.toNat < duty.toNat)

/-- The triangle advances: `S.linear_counter > 0 and S.length_counter > 0` (R132). -/
def triangleGate (linear : BitVec 7) (length : BitVec 8) : Bool := linear != 0 && length != 0

/-- The feedback bit of the LFSR: bit 0 xor (bit 6 in short mode, else bit 1), of the old value (R133). -/
def lfsrFeedback (mode : Bool) (r : BitVec 15) : Bool :=
  r.getLsbD 0 ^^ (if mode then r.getLsbD 6 else r.getLsbD 1)

end Sys2Proof.Machine
end

