-- ==== Sys2Proof/WellFormed.lean ====
section
/-! DEFINITION. Which terms of `Instr` are instructions. Every field has the width of R62 by its type,
so the only check left is that an UNKNOWN row's address is one no other row of its identity claims. -/

namespace Sys2Proof

/-- `a` is neither the enable address nor one of the four register addresses of `id`: R61 classes it
UNKNOWN. The numbers are those of the map in R70; Decode.lean's `classify` agrees with them
(`classify_unknown_iff`). -/
def unclaimed (id : Identity) (a : Byte) : Bool :=
  match id with
  | .pulse1 => a != 0x15 && a != 0x00 && a != 0x01 && a != 0x02 && a != 0x03
  | .pulse2 => a != 0x15 && a != 0x04 && a != 0x05 && a != 0x06 && a != 0x07
  | .triangle => a != 0x15 && a != 0x08 && a != 0x09 && a != 0x0A && a != 0x0B
  | .noise => a != 0x15 && a != 0x0C && a != 0x0D && a != 0x0E && a != 0x0F

/-- R98: an UNKNOWN command has "`a` not 0x15 and not in the node's window". Every other term is an
instruction (R61: every word is a valid command). -/
def Instr.wellFormed : Instr → Bool
  | .p1Unk a _ => unclaimed .pulse1 a
  | .p2Unk a _ => unclaimed .pulse2 a
  | .triUnk a _ => unclaimed .triangle a
  | .noiUnk a _ => unclaimed .noise a
  | .p1Reg0 _ _ _ _ | .p1Reg1 _ _ _ _ | .p1Reg2 _ | .p1Reg3 _ _
  | .p2Reg0 _ _ _ _ | .p2Reg1 _ _ _ _ | .p2Reg2 _ | .p2Reg3 _ _
  | .triReg0 _ _ | .triReg1 _ | .triReg2 _ | .triReg3 _ _
  | .noiReg0 _ _ _ _ | .noiReg1 _ | .noiReg2 _ _ _ | .noiReg3 _ _
  | .p1En _ | .p2En _ | .triEn _ | .noiEn _
  | .reset _ | .push _ _ | .pop | .frame | .sample => true

end Sys2Proof
end

