-- ==== Sys2Proof/Decode.lean ====
section
/-! DEFINITION. The address map (BASE, ENABLE_ADDR), the classification of an address (R61), decoding of
a pair of bytes, the encoder, and the host's view of a table word. -/

namespace Sys2Proof

/-- `bit(v, n)` of R8. -/
def bit (v : Byte) (n : Nat) : Bool := v.getLsbD n

/-- `v[lo + w - 1 : lo]` of R8, `w` bits wide. -/
def field (v : Byte) (lo w : Nat) : BitVec w := v.extractLsb' lo w

/-- `BASE(id)` (R5, R41): the bus address of Reg0. The source fixes the Noise window only; the other
three are the spec's D2. Log 9. -/
def base : Identity → Byte
  | .pulse1 => 0x00
  | .pulse2 => 0x04
  | .triangle => 0x08
  | .noise => 0x0C

/-- `ENABLE_ADDR` (R5, R41). -/
def enableAddr : Byte := 0x15

/-- The classes of an address (R61). -/
inductive RegClass where
  | reg0
  | reg1
  | reg2
  | reg3
  | enable
  | unknown
deriving DecidableEq, Repr

/-- `class = REG(n)` for an offset from the base (R61). -/
def regClassOfOffset (n : Nat) : RegClass :=
  match n with
  | 0 => .reg0
  | 1 => .reg1
  | 2 => .reg2
  | 3 => .reg3
  | _ => .unknown

/-- R61, its tests in its order. -/
def classify (id : Identity) (a : Byte) : RegClass :=
  if a = enableAddr then .enable
  else if (base id).toNat ≤ a.toNat ∧ a.toNat ≤ (base id).toNat + 3 then
    regClassOfOffset (a.toNat - (base id).toNat)
  else .unknown

/-- The command `W a, v` as a node of identity `id` reads it (R61, R62, R80): total on all 65536 words. -/
def decodeCommand (id : Identity) (a v : Byte) : Instr :=
  match id, classify id a with
  | .pulse1, .reg0 => .p1Reg0 (field v 6 2) (bit v 5) (bit v 4) (field v 0 4)
  | .pulse1, .reg1 => .p1Reg1 (bit v 7) (field v 4 3) (bit v 3) (field v 0 3)
  | .pulse1, .reg2 => .p1Reg2 v
  | .pulse1, .reg3 => .p1Reg3 (field v 3 5) (field v 0 3)
  | .pulse1, .enable => .p1En v
  | .pulse1, .unknown => .p1Unk a v
  | .pulse2, .reg0 => .p2Reg0 (field v 6 2) (bit v 5) (bit v 4) (field v 0 4)
  | .pulse2, .reg1 => .p2Reg1 (bit v 7) (field v 4 3) (bit v 3) (field v 0 3)
  | .pulse2, .reg2 => .p2Reg2 v
  | .pulse2, .reg3 => .p2Reg3 (field v 3 5) (field v 0 3)
  | .pulse2, .enable => .p2En v
  | .pulse2, .unknown => .p2Unk a v
  | .triangle, .reg0 => .triReg0 (bit v 7) (field v 0 7)
  | .triangle, .reg1 => .triReg1 v
  | .triangle, .reg2 => .triReg2 v
  | .triangle, .reg3 => .triReg3 (field v 3 5) (field v 0 3)
  | .triangle, .enable => .triEn v
  | .triangle, .unknown => .triUnk a v
  | .noise, .reg0 => .noiReg0 (field v 6 2) (bit v 5) (bit v 4) (field v 0 4)
  | .noise, .reg1 => .noiReg1 v
  | .noise, .reg2 => .noiReg2 (bit v 7) (field v 4 3) (field v 0 4)
  | .noise, .reg3 => .noiReg3 (field v 3 5) (field v 0 3)
  | .noise, .enable => .noiEn v
  | .noise, .unknown => .noiUnk a v

/-- Why a list of bytes holds no command. A command is always a whole pair (R60, R145). -/
inductive DecodeError where
  /-- No byte at all. -/
  | noBytes
  /-- An address byte with no value byte: the producer's protocol violation of R145. -/
  | addressWithoutValue
deriving DecidableEq, Repr

/-- Read one command from a byte stream `(address, value)`, and give the rest back (R60). -/
def decode (id : Identity) : List Byte → Except DecodeError (Instr × List Byte)
  | [] => .error .noBytes
  | [_] => .error .addressWithoutValue
  | a :: v :: rest => .ok (decodeCommand id a v, rest)

/-- The value byte of Pulse and Noise Reg0 (R62). -/
def packReg0 (dy : BitVec 2) (h c : Bool) (vol : BitVec 4) : Byte :=
  dy ++ BitVec.ofBool h ++ BitVec.ofBool c ++ vol

/-- The value byte of Pulse Reg1 (R62). -/
def packReg1 (e : Bool) (p : BitVec 3) (n : Bool) (sh : BitVec 3) : Byte :=
  BitVec.ofBool e ++ p ++ BitVec.ofBool n ++ sh

/-- The value byte of every Reg3 (R62). -/
def packReg3 (l : BitVec 5) (t : BitVec 3) : Byte := l ++ t

/-- The value byte of Triangle Reg0 (R62). -/
def packTriReg0 (h : Bool) (r : BitVec 7) : Byte := BitVec.ofBool h ++ r

/-- The value byte of Noise Reg2 (R62). -/
def packNoiReg2 (m : Bool) (ign : BitVec 3) (x : BitVec 4) : Byte := BitVec.ofBool m ++ ign ++ x

/-- The two bytes of a command, address first (R60, R62, R70). Events have no encoding (R68). -/
def encode : Instr → Option (List Byte)
  | .p1Reg0 dy h c vol => some [0x00, packReg0 dy h c vol]
  | .p1Reg1 e p n sh => some [0x01, packReg1 e p n sh]
  | .p1Reg2 t => some [0x02, t]
  | .p1Reg3 l t => some [0x03, packReg3 l t]
  | .p2Reg0 dy h c vol => some [0x04, packReg0 dy h c vol]
  | .p2Reg1 e p n sh => some [0x05, packReg1 e p n sh]
  | .p2Reg2 t => some [0x06, t]
  | .p2Reg3 l t => some [0x07, packReg3 l t]
  | .triReg0 h r => some [0x08, packTriReg0 h r]
  | .triReg1 v => some [0x09, v]
  | .triReg2 t => some [0x0A, t]
  | .triReg3 l t => some [0x0B, packReg3 l t]
  | .noiReg0 ign h c vol => some [0x0C, packReg0 ign h c vol]
  | .noiReg1 v => some [0x0D, v]
  | .noiReg2 m ign x => some [0x0E, packNoiReg2 m ign x]
  | .noiReg3 l ign => some [0x0F, packReg3 l ign]
  | .p1En v => some [0x15, v]
  | .p2En v => some [0x15, v]
  | .triEn v => some [0x15, v]
  | .noiEn v => some [0x15, v]
  | .p1Unk a v => some [a, v]
  | .p2Unk a v => some [a, v]
  | .triUnk a v => some [a, v]
  | .noiUnk a v => some [a, v]
  | .reset _ => none
  | .push _ _ => none
  | .pop => none
  | .frame => none
  | .sample => none

/-- The identity whose window holds address `a`; Pulse1 for an address in no window. A table word
names no identity, so this is the node a table word is read on. Log 28. -/
def homeIdentity (a : Byte) : Identity :=
  match a.toNat / 4 with
  | 1 => .pulse2
  | 2 => .triangle
  | 3 => .noise
  | _ => .pulse1

/-- The address byte of the 16-bit command word: `C[15:8]` (R60). -/
def wordAddr (w : Nat) : Byte := BitVec.ofNat 8 (w / 256)

/-- The value byte of the 16-bit command word: `C[7:0]` (R60). -/
def wordValue (w : Nat) : Byte := BitVec.ofNat 8 w

/-- What a row's word of opcode_table.json is. A 16-bit word is a command, read on the node in whose
window its address lies (log 28). The one row with one byte of bits is RESET, whose two bits are the
configuration input and no bus word (R68). -/
def decodeTableWord (nbits w : Nat) : Option Instr :=
  match nbits with
  | 16 =>
    if w < 65536 then
      match decode (homeIdentity (wordAddr w)) [wordAddr w, wordValue w] with
      | .ok (i, _) => some i
      | .error _ => none
    else none
  | 8 => if w < 4 then some (.reset (BitVec.ofNat 2 w)) else none
  | _ => none

end Sys2Proof
end

