-- ==== Sys2Proof/Machine/Operands.lean ====
section
/-! DEFINITION. How an operand field becomes a state value (R63), the sweep target (R113) and the next
values of the generators' registers (R132, R133). Nothing here writes the state. -/

namespace Sys2Proof.Machine

/-- Reg2 of Pulse and Triangle: `(S.period and 0x700) or v` (R43, R63). -/
def periodWithLow (old : Period) (t : Byte) : Period := (old &&& (0x700 : Period)) ||| t.setWidth 11

/-- Reg3 of Pulse and Triangle: `(S.period and 0x0FF) or (v[2:0] << 8)` (R43, R63). -/
def periodWithHigh (old : Period) (t : BitVec 3) : Period := (old &&& (0x0FF : Period)) ||| (t.setWidth 11 <<< 8)

/-- Noise Reg2: the index as a period of 11 bits, the upper seven 0 (R15, R63; log 32). -/
def periodOfIndex (x : BitVec 4) : Period := x.setWidth 11

/-- `sweep_divider_period`: `v[6:4] + 1`, so 1..8 (R63). -/
def dividerPeriodOf (p : BitVec 3) : BitVec 4 := p.setWidth 4 + 1

/-- The enable bit a node takes: `bit(v, ENABLE_BIT(id))` (R97). -/
def enableOf (id : Identity) (v : Byte) : Bool := bit v (enableBit id)

/-- `delta` of R113: `zext_16(S.period >> S.sweep_shift)`, with the negation of each pulse unit. The
sweep unit runs on Pulse1 and Pulse2 only; the two other rows negate nothing. -/
def sweepDelta (id : Identity) (period : Period) (shift : BitVec 3) (negate : Bool) : SweepWord :=
  let delta : SweepWord := (period >>> shift.toNat).setWidth 16
  if negate then
    match id with
    | .pulse1 => ~~~ delta
    | .pulse2 => ~~~ delta + 1
    | .triangle => delta
    | .noise => delta
  else delta

/-- `target` of R113: `zext_16(S.period) +_16 delta`. -/
def sweepTargetOf (id : Identity) (period : Period) (shift : BitVec 3) (negate : Bool) : SweepWord :=
  period.setWidth 16 + sweepDelta id period shift negate

/-- `target[10:0]` (R114). -/
def periodOfTarget (target : SweepWord) : Period := target.setWidth 11

/-- The triangle's output for a step: the step below 16, `not_5(step) and 0xF` from 16 on (R132). -/
def triangleLevel (step : BitVec 5) : BitVec 4 :=
  if step.toNat < 16 then step.setWidth 4 else (~~~ step &&& 0xF).setWidth 4

/-- `S.shift_register >> 1`, with bit 14 set when the feedback bit is 1 (R133). -/
def lfsrShift (feedback : Bool) (r : BitVec 15) : BitVec 15 :=
  if feedback then (r >>> 1) ||| (0x4000 : BitVec 15) else r >>> 1

/-- The divisor of the hardware clock that the rate operand stands for: `period`, or the noise table's
entry (R47, R155). Only the rate of `SAMPLE` depends on it, so no rule of the block reads it. Log 25. -/
def clockDivisor (id : Identity) (rate : Period) : Nat :=
  match id with
  | .pulse1 => rate.toNat
  | .pulse2 => rate.toNat
  | .triangle => rate.toNat
  | .noise => Config.noisePeriodTable (rate.setWidth 4)

end Sys2Proof.Machine
end

