-- ==== Sys2Proof/Machine/Ops.lean ====
section
/-! DEFINITION. The named operations over the state that the rules are written in (R9): the memory of
the FIFO storage, the queue operations, `note`, `ClockProgram`, `ClockRun`, `DacWrite`. The block takes
no exception and returns from none (R160, R165, R166); `note` is all that stands in that place. -/

namespace Sys2Proof.Machine

/-- The byte written last at an index, if any since power-on. -/
def Memory.read (m : Memory) (i : Nat) : Option Byte :=
  match m with
  | [] => none
  | (j, b) :: rest => if j = i then some b else Memory.read rest i

/-- Write one byte, keeping the cells in rising order. -/
def Memory.write (m : Memory) (i : Nat) (b : Byte) : Memory :=
  match m with
  | [] => [(i, b)]
  | (j, c) :: rest =>
    if i < j then (i, b) :: (j, c) :: rest
    else if i = j then (i, b) :: rest
    else (j, c) :: Memory.write rest i b

/-- One of the two arrays (R48). -/
def State.array (s : State) (q : QArray) : Memory :=
  match q with
  | .addr => s.qAddr
  | .data => s.qData

/-- `MemRead((q, i), 1)` (R9, R48). A byte that nothing has written reads as a free value (log 24). -/
def State.memRead (s : State) (q : QArray) (i : Nat) : Byte :=
  ((s.array q).read i).getD (Config.powerOnByte q i)

/-- `MemWrite((q, i), 1, b)` (R9, R48). -/
def State.memWrite (q : QArray) (i : Nat) (b : Byte) (s : State) : State :=
  { s with
    qAddr := if q = .addr then s.qAddr.write i b else s.qAddr
    qData := if q = .data then s.qData.write i b else s.qData }

/-- An index of the storage, wrapped modulo `FIFO_CAPACITY` (R48). -/
def State.wrap (s : State) (i : Nat) : Nat := i % s.fifoCapacity

/-- Entry `n` of the sequence, oldest first: at index `(rd + n) mod N` of both arrays (R48). -/
def State.entry (s : State) (n : Nat) : Byte × Byte :=
  (s.memRead .addr (s.wrap (s.rd + n)), s.memRead .data (s.wrap (s.rd + n)))

/-- The oldest pair: what `FifoPop` returns (R143). -/
def State.head (s : State) : Byte × Byte := (s.memRead .addr s.rd, s.memRead .data s.rd)

/-- `S.fifo` as the sequence R48 and R140 specify, oldest first. -/
def State.queue (s : State) : List (Byte × Byte) := (List.range s.count).map s.entry

/-- The codes of R161 (D23). -/
def noteCode : Note → Nat
  | .unknownRegister _ _ => 1
  | .fifoOverflow _ _ => 2

/-- `note Ev(info)`: append to the trace and count it under its code (R161). -/
def note (n : Note) (s : State) : State :=
  { s with
    notes := s.notes ++ [n]
    unknownCount := if noteCode n = 1 then s.unknownCount + 1 else s.unknownCount
    overflowCount := if noteCode n = 2 then s.overflowCount + 1 else s.overflowCount }

/-- Take the oldest pair off the ring: the read index moves, the count goes down (R143). The storage
bytes stay. -/
def dropHead (s : State) : State := { s with rd := s.wrap (s.rd + 1), count := s.count - 1 }

/-- Append one pair as the newest: both bytes at the write index, which then moves; the count goes up
(R141). -/
def appendPair (a v : Byte) (s : State) : State :=
  let t := State.memWrite .data s.wr v (State.memWrite .addr s.wr a s)
  { t with wr := t.wrap (t.wr + 1), count := t.count + 1 }

/-- Make room: a full FIFO drops exactly its oldest pair, with a note (R141, R142). -/
def makeRoom (s : State) : State :=
  if s.count = s.fifoCapacity then dropHead (note (.fifoOverflow s.head.1 s.head.2) s) else s

/-- `FifoPush(a, v)` (R141). -/
def fifoPush (a v : Byte) (s : State) : State := appendPair a v (makeRoom s)

/-- `ClockProgram(r)` (R153): hand the rate operand over and re-evaluate the run condition. -/
def clockProgram (r : Period) (s : State) : State :=
  { s with clkRate := r, clkRunning := runCondition s.identity r s.clkRunning }

/-- `ClockRun(b)` (R154). -/
def clockRun (b : Bool) (s : State) : State := { s with clkRunning := b }

/-- Write `period` and reprogram the sample clock in the same step (R100). -/
def setPeriod (p : Period) (s : State) : State := clockProgram p { s with period := p }

/-- `LENGTH_TABLE[l]`, of the node's own table (R46). -/
def State.lengthEntry (s : State) (l : BitVec 5) : Byte := s.lengthTable.get l.toFin

/-- The length load of every Reg3: `S.length_counter <- LENGTH_TABLE[l]` (R63). -/
def loadLength (l : BitVec 5) (s : State) : State := { s with lengthCounter := s.lengthEntry l }

/-- `DacWrite(x)` (R156). -/
def dacWrite (x : BitVec 4) (s : State) : State := { s with dacOut := x }

/-- The outcome of an address the node knows no register at: only the note (R65, R98). -/
def unknownCommand (a v : Byte) (s : State) : State := note (.unknownRegister a v) s

/-- Put one pair where the next `POP` reads: in the slot of the read index, which becomes occupied if
the FIFO was empty. Not an event of the block; `withFetchWord` places an instruction with it. -/
def placeHead (a v : Byte) (s : State) : State :=
  let t := State.memWrite .data s.rd v (State.memWrite .addr s.rd a s)
  if s.count = 0 then { t with wr := t.wrap (t.rd + 1), count := 1 } else t

end Sys2Proof.Machine
end

