-- ==== Sys2Proof/Machine/FrameSequencer.lean ====
section
/-! DEFINITION. The Frame Sequencer (R110 to R123): the steps under the source's numbers, and `FRAME`
running them in the source's order, 5 and 6 before 1. -/

namespace Sys2Proof.Machine

/-- Step 5, length counter (R112): all identities, half-frame edges. -/
def stepLength (s : State) : State :=
  if s.lengthCounter ≠ 0 ∧ s.lengthCounterHalt = false then
    { s with lengthCounter := s.lengthCounter - 1 }
  else s

/-- The sweep target of the present state (R113). -/
def State.sweepTarget (s : State) : SweepWord :=
  sweepTargetOf s.identity s.period s.sweepShift s.sweepNegate

/-- The evaluation of R114, made when the divider counter was 0: mute, commit, or nothing. -/
def sweepEvaluate (s : State) : State :=
  if sweepOutOfRange s.sweepTarget s.period then { s with volume := 0 }
  else if s.sweepEnabled then setPeriod (periodOfTarget s.sweepTarget) s
  else s

/-- Step 6, part 2 (R114): count the divider down, or reload it and evaluate. -/
def stepSweepDivider (s : State) : State :=
  if s.sweepDividerCounter ≠ 0 then { s with sweepDividerCounter := s.sweepDividerCounter - 1 }
  else sweepEvaluate { s with sweepDividerCounter := s.sweepDividerPeriod }

/-- Step 6, part 3 (R115): the reload flag, after part 2 whatever it did. -/
def stepSweepReload (s : State) : State :=
  if s.sweepReloadFlag then
    { s with sweepDividerCounter := s.sweepDividerPeriod, sweepReloadFlag := false }
  else s

/-- Step 6 (R113 to R115, R120): Pulse1 and Pulse2, half-frame edges. -/
def stepSweep (s : State) : State :=
  match s.identity with
  | .pulse1 => stepSweepReload (stepSweepDivider s)
  | .pulse2 => stepSweepReload (stepSweepDivider s)
  | .triangle => s
  | .noise => s

/-- The envelope generator (R116). -/
def envelopeTick (s : State) : State :=
  if s.envReloadFlag then
    { s with envReloadFlag := false, envDivider := s.envReloadValue, envVolume := 15 }
  else if s.envDivider = 0 then
    { s with
      envDivider := s.envReloadValue
      envVolume := if s.envVolume ≠ 0 then s.envVolume - 1
        else if s.lengthCounterHalt then 15 else s.envVolume }
  else { s with envDivider := s.envDivider - 1 }

/-- Step 1 (R116, R120): Pulse1, Pulse2 and Noise, every edge. Log 19. -/
def stepEnvelope (s : State) : State :=
  match s.identity with
  | .pulse1 => envelopeTick s
  | .pulse2 => envelopeTick s
  | .triangle => s
  | .noise => envelopeTick s

/-- The linear counter (R117). -/
def linearTick (s : State) : State :=
  { s with
    linearCounter := if s.linearCounterReloadFlag then s.linearCounterReloadValue
      else if s.linearCounter ≠ 0 then s.linearCounter - 1 else s.linearCounter
    linearCounterReloadFlag := if s.lengthCounterHalt then s.linearCounterReloadFlag else false }

/-- Step 2 (R117, R120): Triangle, every edge. -/
def stepLinear (s : State) : State :=
  match s.identity with
  | .pulse1 => s
  | .pulse2 => s
  | .triangle => linearTick s
  | .noise => s

/-- The amplitude an envelope channel takes while its length counter is not 0 (R118). -/
def envelopeLevel (s : State) : BitVec 4 := if s.envConstFlag then s.envReloadValue else s.envVolume

/-- Step 3, volume (R118): all identities, every edge; on Triangle only ever forced to 0. Log 19. -/
def stepVolume (s : State) : State :=
  if s.lengthCounter = 0 then { s with volume := 0 }
  else
    match s.identity with
    | .pulse1 => { s with volume := envelopeLevel s }
    | .pulse2 => { s with volume := envelopeLevel s }
    | .triangle => s
    | .noise => { s with volume := envelopeLevel s }

/-- Step 4 (R119, R120): Noise, every edge; a muted channel's sample clock stops. -/
def stepNoiseClock (s : State) : State :=
  match s.identity with
  | .pulse1 => s
  | .pulse2 => s
  | .triangle => s
  | .noise => if s.volume = 0 then clockRun false s else s

/-- `S.frame_parity <- S.frame_parity xor 1` (R110). -/
def toggleParity (s : State) : State := { s with frameParity := !s.frameParity }

/-- Steps 5 and 6, in this order (R110). -/
def halfFrameSteps (s : State) : State := stepSweep (stepLength s)

/-- Steps 1, 2, 3 and 4, in this order (R110). -/
def quarterFrameSteps (s : State) : State := stepNoiseClock (stepVolume (stepLinear (stepEnvelope s)))

/-- One invocation of the Frame Sequencer (R110). -/
def frameEdge (s : State) : State :=
  if halfFrameEdge s.frameParity then quarterFrameSteps (halfFrameSteps (toggleParity s))
  else quarterFrameSteps (toggleParity s)

/-- `FRAME` (R110): always enabled, one atomic step (R122, R163). -/
def execFrame (s : State) : Host.Outcome State Fault Refusal := .next (frameEdge s)

end Sys2Proof.Machine
end

