-- ==== Sys2Proof/Machine/NoiseCommands.lean ====
section
/-! DEFINITION. The register commands of the noise channel (R93 to R96). The ignored bits (R64) reach
each meaning and change nothing. -/

namespace Sys2Proof.Machine

/-- `NOI.REG0` (R93): envelope value, const flag, halt flag; `v[7:6]` ignored. -/
def execNoiReg0 (_ign : BitVec 2) (h c : Bool) (vol : BitVec 4) (s : State) : Host.Outcome State Fault Refusal :=
  .next { s with envReloadValue := vol, envConstFlag := c, lengthCounterHalt := h }

/-- `NOI.REG1` (R66, R94): no operation, with the note. Log 18. -/
def execNoiReg1 (v : Byte) (s : State) : Host.Outcome State Fault Refusal := .next (unknownCommand 0x0D v s)

/-- `NOI.REG2` (R95): mode and index, ClockProgram, then ClockRun(1) unconditionally; `v[6:4]` ignored.
Log 17. -/
def execNoiReg2 (m : Bool) (_ign : BitVec 3) (x : BitVec 4) (s : State) : Host.Outcome State Fault Refusal :=
  .next (clockRun true (setPeriod (periodOfIndex x) { s with shiftMode := m }))

/-- `NOI.REG3` (R96): the length load and the envelope restart, no clock action; `v[2:0]` ignored.
Log 16. -/
def execNoiReg3 (l : BitVec 5) (_ign : BitVec 3) (s : State) : Host.Outcome State Fault Refusal :=
  .next { loadLength l s with envReloadFlag := true }

end Sys2Proof.Machine
end

