-- ==== Sys2Proof/Machine/PulseCommands.lean ====
section
/-! DEFINITION. The register commands of the two pulse channels (R81 to R88). Each pair of rows is the
same rule "word for word" with another address, so each is one line over the shared write. -/

namespace Sys2Proof.Machine

/-- Pulse Reg0 (R81): envelope value, const flag, halt flag, duty through the table. -/
def writePulseReg0 (dy : BitVec 2) (h c : Bool) (vol : BitVec 4) (s : State) : State :=
  { s with
    envReloadValue := vol
    envConstFlag := c
    lengthCounterHalt := h
    dutyCycle := dutyTable dy }

/-- Pulse Reg1 (R83): the sweep fields; the reload flag is set whatever the value. -/
def writePulseReg1 (e : Bool) (p : BitVec 3) (n : Bool) (sh : BitVec 3) (s : State) : State :=
  { s with
    sweepEnabled := e
    sweepNegate := n
    sweepDividerPeriod := dividerPeriodOf p
    sweepShift := sh
    sweepReloadFlag := true }

/-- Reg2 of Pulse and Triangle (R85, R91): the low byte of the period, then ClockProgram. -/
def writePeriodLow (t : Byte) (s : State) : State := setPeriod (periodWithLow s.period t) s

/-- Pulse Reg3 (R87): the high bits of the period, the length load, the envelope restart, ClockProgram. -/
def writePulseReg3 (l : BitVec 5) (t : BitVec 3) (s : State) : State :=
  setPeriod (periodWithHigh s.period t) { loadLength l s with envReloadFlag := true }

/-- `P1.REG0` (R81). -/
def execP1Reg0 (dy : BitVec 2) (h c : Bool) (vol : BitVec 4) (s : State) : Host.Outcome State Fault Refusal :=
  .next (writePulseReg0 dy h c vol s)

/-- `P1.REG1` (R83). -/
def execP1Reg1 (e : Bool) (p : BitVec 3) (n : Bool) (sh : BitVec 3) (s : State) : Host.Outcome State Fault Refusal :=
  .next (writePulseReg1 e p n sh s)

/-- `P1.REG2` (R85). -/
def execP1Reg2 (t : Byte) (s : State) : Host.Outcome State Fault Refusal := .next (writePeriodLow t s)

/-- `P1.REG3` (R87). -/
def execP1Reg3 (l : BitVec 5) (t : BitVec 3) (s : State) : Host.Outcome State Fault Refusal :=
  .next (writePulseReg3 l t s)

/-- `P2.REG0` (R82). -/
def execP2Reg0 (dy : BitVec 2) (h c : Bool) (vol : BitVec 4) (s : State) : Host.Outcome State Fault Refusal :=
  .next (writePulseReg0 dy h c vol s)

/-- `P2.REG1` (R84). -/
def execP2Reg1 (e : Bool) (p : BitVec 3) (n : Bool) (sh : BitVec 3) (s : State) : Host.Outcome State Fault Refusal :=
  .next (writePulseReg1 e p n sh s)

/-- `P2.REG2` (R86). -/
def execP2Reg2 (t : Byte) (s : State) : Host.Outcome State Fault Refusal := .next (writePeriodLow t s)

/-- `P2.REG3` (R88). -/
def execP2Reg3 (l : BitVec 5) (t : BitVec 3) (s : State) : Host.Outcome State Fault Refusal :=
  .next (writePulseReg3 l t s)

end Sys2Proof.Machine
end

