-- ==== Sys2Proof/Machine/SharedCommands.lean ====
section
/-! DEFINITION. The commands every identity has: the enable register (R97) and the unknown addresses
(R98). -/

namespace Sys2Proof.Machine

/-- R97: `S.enabled <- bit(v, ENABLE_BIT(S.identity))` and nothing else. Log 21. -/
def writeEnable (v : Byte) (s : State) : State := { s with enabled := enableOf s.identity v }

/-- `P1.EN` (R97). -/
def execP1En (v : Byte) (s : State) : Host.Outcome State Fault Refusal := .next (writeEnable v s)

/-- `P2.EN` (R97). -/
def execP2En (v : Byte) (s : State) : Host.Outcome State Fault Refusal := .next (writeEnable v s)

/-- `TRI.EN` (R97). -/
def execTriEn (v : Byte) (s : State) : Host.Outcome State Fault Refusal := .next (writeEnable v s)

/-- `NOI.EN` (R97). -/
def execNoiEn (v : Byte) (s : State) : Host.Outcome State Fault Refusal := .next (writeEnable v s)

/-- `P1.UNK` (R98): the note and nothing else. -/
def execP1Unk (a v : Byte) (s : State) : Host.Outcome State Fault Refusal := .next (unknownCommand a v s)

/-- `P2.UNK` (R98). -/
def execP2Unk (a v : Byte) (s : State) : Host.Outcome State Fault Refusal := .next (unknownCommand a v s)

/-- `TRI.UNK` (R98). -/
def execTriUnk (a v : Byte) (s : State) : Host.Outcome State Fault Refusal := .next (unknownCommand a v s)

/-- `NOI.UNK` (R98). -/
def execNoiUnk (a v : Byte) (s : State) : Host.Outcome State Fault Refusal := .next (unknownCommand a v s)

end Sys2Proof.Machine
end

