-- ==== Sys2Proof/Machine/TriangleCommands.lean ====
section
/-! DEFINITION. The register commands of the triangle channel (R89 to R92). -/

namespace Sys2Proof.Machine

/-- `TRI.REG0` (R89): the halt and control bit, the linear counter's reload value. -/
def execTriReg0 (h : Bool) (r : BitVec 7) (s : State) : Host.Outcome State Fault Refusal :=
  .next { s with lengthCounterHalt := h, linearCounterReloadValue := r }

/-- `TRI.REG1` (R66, R90): no operation, with the note. Log 18. -/
def execTriReg1 (v : Byte) (s : State) : Host.Outcome State Fault Refusal := .next (unknownCommand 0x09 v s)

/-- `TRI.REG2` (R91). -/
def execTriReg2 (t : Byte) (s : State) : Host.Outcome State Fault Refusal := .next (writePeriodLow t s)

/-- `TRI.REG3` (R92): the high bits of the period, the length load, the linear counter's reload request,
ClockProgram. -/
def execTriReg3 (l : BitVec 5) (t : BitVec 3) (s : State) : Host.Outcome State Fault Refusal :=
  .next (setPeriod (periodWithHigh s.period t) { loadLength l s with linearCounterReloadFlag := true })

end Sys2Proof.Machine
end

