-- ==== Sys2Proof/Machine/Ingestor.lean ====
section
/-! DEFINITION. The register ingestor: `PUSH` (R141, R142) and `POP` (R143), with the dispatch of the
popped command to its meaning (R80). -/

namespace Sys2Proof.Machine

/-- The table of R80: run the decoded command. `decodeCommand` gives no event (R68), so the last five
arms are not reached; they leave the state alone. -/
def runCommand (c : Instr) (s : State) : Host.Outcome State Fault Refusal :=
  match c with
  | .p1Reg0 dy h k vol => execP1Reg0 dy h k vol s
  | .p1Reg1 e p n sh => execP1Reg1 e p n sh s
  | .p1Reg2 t => execP1Reg2 t s
  | .p1Reg3 l t => execP1Reg3 l t s
  | .p2Reg0 dy h k vol => execP2Reg0 dy h k vol s
  | .p2Reg1 e p n sh => execP2Reg1 e p n sh s
  | .p2Reg2 t => execP2Reg2 t s
  | .p2Reg3 l t => execP2Reg3 l t s
  | .triReg0 h r => execTriReg0 h r s
  | .triReg1 v => execTriReg1 v s
  | .triReg2 t => execTriReg2 t s
  | .triReg3 l t => execTriReg3 l t s
  | .noiReg0 ign h k vol => execNoiReg0 ign h k vol s
  | .noiReg1 v => execNoiReg1 v s
  | .noiReg2 m ign x => execNoiReg2 m ign x s
  | .noiReg3 l ign => execNoiReg3 l ign s
  | .p1En v => execP1En v s
  | .p2En v => execP2En v s
  | .triEn v => execTriEn v s
  | .noiEn v => execNoiEn v s
  | .p1Unk a v => execP1Unk a v s
  | .p2Unk a v => execP2Unk a v s
  | .triUnk a v => execTriUnk a v s
  | .noiUnk a v => execNoiUnk a v s
  | .reset _ => .next s
  | .push _ _ => .next s
  | .pop => .next s
  | .frame => .next s
  | .sample => .next s

/-- `PUSH(a, v)` (R141): always enabled, never held off. -/
def execPush (a v : Byte) (s : State) : Host.Outcome State Fault Refusal := .next (fifoPush a v s)

/-- `POP` (R143): take the oldest pair and run the Register Decoder on it, in one step. On an empty FIFO
it is "not enabled; it does not happen, and nothing is decoded" (log 4). -/
def execPop (s : State) : Host.Outcome State Fault Refusal :=
  if s.count = 0 then .next s
  else runCommand (decodeCommand s.identity s.head.1 s.head.2) (dropHead s)

end Sys2Proof.Machine
end

