-- ==== Sys2Proof/Machine/SampleGenerator.lean ====
section
/-! DEFINITION. The Sample Generator (R130 to R136): the duty-cycle modulator, the triangle ramp, the
LFSR, and `SAMPLE`. Each generator advances first and forms its output from the new value (log 20). -/

namespace Sys2Proof.Machine

/-- R131, Pulse1 and Pulse2 alike. -/
def pulseTick (s : State) : State :=
  let t := { s with pulseStep := s.pulseStep + 1 }
  dacWrite (if pulseHigh t.pulseStep t.dutyCycle then t.volume else 0) t

/-- R132: with the gate closed neither the step nor the DAC changes. -/
def triangleTick (s : State) : State :=
  if triangleGate s.linearCounter s.lengthCounter then
    let t := { s with triStep := s.triStep + 1 }
    dacWrite (triangleLevel t.triStep) t
  else s

/-- R133: the taps are read from the old register, the output bit from the new one. -/
def noiseTick (s : State) : State :=
  let t := { s with shiftRegister := lfsrShift (lfsrFeedback s.shiftMode s.shiftRegister) s.shiftRegister }
  dacWrite (if t.shiftRegister.getLsbD 0 then 0 else t.volume) t

/-- One tick of the generator the identity selects (R130). -/
def sampleTick (s : State) : State :=
  match s.identity with
  | .pulse1 => pulseTick s
  | .pulse2 => pulseTick s
  | .triangle => triangleTick s
  | .noise => noiseTick s

/-- `SAMPLE` (R130): a tick of a running sample clock. A stopped clock produces no tick, and none is
remembered (R163; log 4). -/
def execSample (s : State) : Host.Outcome State Fault Refusal :=
  if s.clkRunning then .next (sampleTick s) else .next s

end Sys2Proof.Machine
end

