-- ==== Sys2Proof/Machine/Dispatch.lean ====
section
/-! DEFINITION. One arm per row of the opcode table. -/

namespace Sys2Proof.Machine

def exec (i : Instr) (s : State) : Host.Outcome State Fault Refusal :=
  match i with
  | .p1Reg0 dy h c vol => Sys2Proof.Machine.execP1Reg0 dy h c vol s
  | .p1Reg1 e p n sh => Sys2Proof.Machine.execP1Reg1 e p n sh s
  | .p1Reg2 t => Sys2Proof.Machine.execP1Reg2 t s
  | .p1Reg3 l t => Sys2Proof.Machine.execP1Reg3 l t s
  | .p2Reg0 dy h c vol => Sys2Proof.Machine.execP2Reg0 dy h c vol s
  | .p2Reg1 e p n sh => Sys2Proof.Machine.execP2Reg1 e p n sh s
  | .p2Reg2 t => Sys2Proof.Machine.execP2Reg2 t s
  | .p2Reg3 l t => Sys2Proof.Machine.execP2Reg3 l t s
  | .triReg0 h r => Sys2Proof.Machine.execTriReg0 h r s
  | .triReg1 v => Sys2Proof.Machine.execTriReg1 v s
  | .triReg2 t => Sys2Proof.Machine.execTriReg2 t s
  | .triReg3 l t => Sys2Proof.Machine.execTriReg3 l t s
  | .noiReg0 ign h c vol => Sys2Proof.Machine.execNoiReg0 ign h c vol s
  | .noiReg1 v => Sys2Proof.Machine.execNoiReg1 v s
  | .noiReg2 m ign x => Sys2Proof.Machine.execNoiReg2 m ign x s
  | .noiReg3 l ign => Sys2Proof.Machine.execNoiReg3 l ign s
  | .p1En v => Sys2Proof.Machine.execP1En v s
  | .p2En v => Sys2Proof.Machine.execP2En v s
  | .triEn v => Sys2Proof.Machine.execTriEn v s
  | .noiEn v => Sys2Proof.Machine.execNoiEn v s
  | .p1Unk a v => Sys2Proof.Machine.execP1Unk a v s
  | .p2Unk a v => Sys2Proof.Machine.execP2Unk a v s
  | .triUnk a v => Sys2Proof.Machine.execTriUnk a v s
  | .noiUnk a v => Sys2Proof.Machine.execNoiUnk a v s
  | .reset cfg => Sys2Proof.Machine.execReset cfg s
  | .push a v => Sys2Proof.Machine.execPush a v s
  | .pop => Sys2Proof.Machine.execPop s
  | .frame => Sys2Proof.Machine.execFrame s
  | .sample => Sys2Proof.Machine.execSample s

end Sys2Proof.Machine
end

