-- ==== Sys2Proof/Machine/Schedule.lean ====
section
/-! DEFINITION. What step does around an event: which event is next, whether it is enabled, what the state
is once it has been taken off the list, and how an instruction is placed so that the next step runs it. -/

namespace Sys2Proof.Machine

/-- The next event of the interleaving, if any is still to come (R6, R164; log 3). -/
def State.nextEvent (s : State) : Option Event := s.script.head?

/-- The column "when enabled" of R7: RESET once and first, every other event only after it (R182), `POP`
with the FIFO not empty, `SAMPLE` with the sample clock running. Log 4, log 26. -/
def State.enables (s : State) (e : Event) : Bool :=
  match e with
  | .reset _ => !s.booted
  | .push _ _ => s.booted
  | .pop => s.booted && decide (s.count ≠ 0)
  | .frame => s.booted
  | .sample => s.booted && s.clkRunning

/-- The same state with its next event taken off the list. -/
def State.advance (s : State) : State := { s with script := s.script.tail }

/-- The same state with one more event before the others. -/
def State.schedule (e : Event) (s : State) : State := { s with script := e :: s.script }

/-- Place a command pair at the FIFO's head, on a node that has had its reset, of the identity whose
window holds its address, with a `POP` as the next event. Log 27, log 28. -/
def placeCommand (a v : Byte) (s : State) : State :=
  State.schedule .pop (placeHead a v { s with identity := homeIdentity a, booted := true })

/-- Place the table word `w` of `nbits` bits so that the next step runs it; a `RESET` runs on a node that has
had none (log 27). -/
def placeWord (nbits w : Nat) (s : State) : State :=
  match nbits with
  | 8 => State.schedule (.reset (BitVec.ofNat 2 w)) { s with booted := false }
  | _ => placeCommand (wordAddr w) (wordValue w) s

end Sys2Proof.Machine
end

