-- ==== Sys2Proof/Machine/Step.lean ====
section
/-! DEFINITION. One step is one event, run to completion (R6). -/

namespace Sys2Proof.Machine

/-- One step: the next event of the list happens if it is enabled, and is spent with no effect if it is not
(R7; log 4). With no event to come nothing happens (R191: a run
"ends when the harness stops supplying events"; log 3). -/
def step (s : State) : Host.Outcome State Fault Refusal :=
  match s.nextEvent with
  | none => .next s
  | some e => if s.enables e then exec e.toInstr s.advance else .next s.advance

/-- The host's placing of one table word where the next step runs it: the FIFO's head for a command. -/
def State.withFetchWord (s : State) (nbits w : Nat) : State := placeWord nbits w s

end Sys2Proof.Machine
end

