-- ==== Sys2Proof/Machine/Observe.lean ====
section
/-! DEFINITION. What an observer sees of a run (R191): the trace of `dac_out`, one value for each `SAMPLE`,
the notes, and the final state. -/

namespace Sys2Proof.Machine

/-- What a step from `s` to `t` adds to the trace: `dac_out` after it, when its event is a `SAMPLE` that is
enabled, whether or not the tick wrote the DAC (R132, R191); else nothing. -/
def sampleShown (s t : State) : List (BitVec 4) :=
  match s.nextEvent with
  | none => []
  | some (.reset _) => []
  | some (.push _ _) => []
  | some .pop => []
  | some .frame => []
  | some .sample => if s.enables .sample then [t.dacOut] else []

/-- The observable result of a run (R191). -/
structure Observation where
  /-- The trace of `dac_out`, oldest first, one value for each `SAMPLE`. -/
  dac : List (BitVec 4)
  /-- The notes of R161 since the reset, oldest first. -/
  notes : List Note
  /-- The final state. -/
  final : State
deriving DecidableEq, Repr

/-- What is seen of a state by itself: the run of no step. -/
def observeNow (s : State) : Observation := { dac := [], notes := s.notes, final := s }

/-- The observation of a run of `k` steps. A step always answers a next state (R160). -/
def observe : Nat → State → Observation
  | 0, s => observeNow s
  | k + 1, s =>
    match step s with
    | .next t => { observe k t with dac := sampleShown s t ++ (observe k t).dac }
    | .fault _ => observeNow s
    | .refused _ => observeNow s

/-- The observation of the run that "ends when the harness stops supplying events" (R191): as many steps as
events are to come. -/
def observeRun (s : State) : Observation := observe s.script.length s

end Sys2Proof.Machine
end

