-- ==== Sys2Proof/Safety.lean ====
section
/-! DEFINITION. What counts as a safe state and a safe run: the invariants of R32, R31, R46, R136, R154 and
of the FIFO ring (R48), each under a name of its own. -/

namespace Sys2Proof.Safety

open Sys2Proof.Machine

/-- The ring of R48 is in order: both arrays in canonical form, indices below the capacity, at most
`FIFO_CAPACITY` pairs, and the write index where the newest pair ends. -/
structure FifoWf (s : State) : Prop where
  addrWf : s.qAddr.wf
  dataWf : s.qData.wf
  rdBound : s.rd < s.fifoCapacity
  countBound : s.count ≤ s.fifoCapacity
  wrAfter : s.wr = s.wrap (s.rd + s.count)

/-- Every occupied slot has been written, in both arrays: no pair is ever half there (R144 b, R145). -/
def OccupiedWritten (s : State) : Prop :=
  ∀ n, n < s.count → ∀ q, ((s.array q).read (s.wrap (s.rd + n))).isSome = true

/-- No cell of the storage lies outside the array (R48). -/
def StorageBounded (s : State) : Prop :=
  ∀ q, ∀ c ∈ s.array q, c.1 < s.fifoCapacity

/-- The constraints on `LENGTH_TABLE` (R46, D5): entry 1 is 254, and every entry is in 1..254. -/
structure TableWf (s : State) : Prop where
  entry1 : s.lengthTable[1] = 254
  range : ∀ i : Fin 32, 1 ≤ s.lengthTable[i].toNat ∧ s.lengthTable[i].toNat ≤ 254

/-- R153, R154: the rate operand is the period, and on Pulse and Triangle the clock runs exactly when the
period is at or above the minimum. -/
structure ClockWf (s : State) : Prop where
  rate : s.clkRate = s.period
  pulseRuns : s.identity = .pulse1 ∨ s.identity = .pulse2 → s.clkRunning = decide (8 ≤ s.period.toNat)
  triangleRuns : s.identity = .triangle → s.clkRunning = decide (4 ≤ s.period.toNat)

/-- R32 item 3: `length_counter == 0` implies `volume == 0`. -/
def MuteWf (s : State) : Prop := s.lengthCounter = 0 → s.volume = 0

/-- R32 item 1: `shift_register != 0`. -/
def LfsrWf (s : State) : Prop := s.shiftRegister ≠ 0

/-- The ranges of R11 and R136. Every other range of R11's table is the field's width. -/
structure RangeWf (s : State) : Prop where
  length : s.lengthCounter.toNat ≤ 254
  duty : s.dutyCycle = 0 ∨ s.dutyCycle = 2 ∨ s.dutyCycle = 4 ∨ s.dutyCycle = 8 ∨ s.dutyCycle = 12
  dividerPeriod : s.sweepDividerPeriod.toNat ≤ 8
  dividerCounter : s.sweepDividerCounter.toNat ≤ 8
  noisePeriod : s.identity = .noise → s.period.toNat < 16
  noiseRate : s.identity = .noise → s.clkRate.toNat < 16
  lfsr : s.shiftRegister ≠ 0

/-- R11, R31: a field that the identity does not have keeps its reset value; and a Triangle's `volume` is
always 0 (R118). -/
structure IdentityWf (s : State) : Prop where
  pulseOnly : s.identity ≠ .pulse1 ∧ s.identity ≠ .pulse2 →
    s.dutyCycle = 0 ∧ s.sweepEnabled = false ∧ s.sweepNegate = false ∧ s.sweepShift = 0 ∧
    s.sweepDividerPeriod = 0 ∧ s.sweepDividerCounter = 0 ∧ s.sweepReloadFlag = false ∧ s.pulseStep = 0
  triangleOnly : s.identity ≠ .triangle →
    s.linearCounter = 0 ∧ s.linearCounterReloadValue = 0 ∧ s.linearCounterReloadFlag = false ∧ s.triStep = 0
  noiseOnly : s.identity ≠ .noise → s.shiftRegister = 1 ∧ s.shiftMode = false
  noEnvelope : s.identity = .triangle →
    s.envConstFlag = false ∧ s.envReloadValue = 0 ∧ s.envDivider = 0 ∧ s.envVolume = 0 ∧
    s.envReloadFlag = false ∧ s.volume = 0

/-- R161: each counter is how many notes of its code the trace holds. -/
structure NotesWf (s : State) : Prop where
  unknown : s.unknownCount = s.notes.countP (fun n => noteCode n == 1)
  overflow : s.overflowCount = s.notes.countP (fun n => noteCode n == 2)

/-- A safe state: all of the above. -/
structure Safe (s : State) : Prop where
  fifo : FifoWf s
  occupied : OccupiedWritten s
  bounded : StorageBounded s
  table : TableWf s
  clock : ClockWf s
  mute : MuteWf s
  lfsr : LfsrWf s
  range : RangeWf s
  fields : IdentityWf s
  notes : NotesWf s

/-- The states a run of `k` steps passes through, the first one included. A stop ends the list. -/
def runStates : Nat → State → List State
  | 0, s => [s]
  | k + 1, s =>
    match step s with
    | .next t => s :: runStates k t
    | .fault _ => [s]
    | .refused _ => [s]

/-- A safe run: safe at every observation point, that is, between any two events (R32). -/
def SafeRun (k : Nat) (s : State) : Prop := ∀ t ∈ runStates k s, Safe t

/-- The state after `k` ticks of the sample clock with no other event between. -/
def afterTicks : Nat → State → State
  | 0, s => s
  | k + 1, s =>
    match exec .sample s with
    | .next t => afterTicks k t
    | .fault _ => s
    | .refused _ => s

end Sys2Proof.Safety
end

