-- ==== Sys2Proof/Certificates/Slice0/Obligations.lean ====
section
/-! DEFINITION. The statements about the model, each from a rule of the spec. Values on the right of an
equation are written with numbers and the operations of R8, not with the model's own operand functions,
wherever the rule gives them. -/

open Sys2Proof Sys2Proof.Machine Sys2Proof.Safety

/-! ### Encoding -/

/-- Words written out bit by bit from the tables of R62 and the map of R70 decode to the command they
stand for; one from every family. The windows of Pulse1, Pulse2 and Triangle are the spec's D2, and that the
length index of the Noise Reg3 word is bits 7:3 is its D15 (log 16). -/
def Obligations.DecodesSampleWordsAsTheMapSays : Prop :=
  decode .pulse1 [0x00, 0x3F] = .ok (.p1Reg0 0 true true 15, []) ∧
  decode .pulse1 [0x01, 0x99] = .ok (.p1Reg1 true 1 true 1, []) ∧
  decode .pulse2 [0x05, 0x7A] = .ok (.p2Reg1 false 7 true 2, []) ∧
  decode .pulse2 [0x07, 0x09] = .ok (.p2Reg3 1 1, []) ∧
  decode .triangle [0x08, 0x85] = .ok (.triReg0 true 5, []) ∧
  decode .triangle [0x0B, 0xF9] = .ok (.triReg3 31 1, []) ∧
  decode .noise [0x0C, 0xFA] = .ok (.noiReg0 3 true true 10, []) ∧
  decode .noise [0x0E, 0x85] = .ok (.noiReg2 true 0 5, []) ∧
  decode .noise [0x0F, 0x1F] = .ok (.noiReg3 3 7, []) ∧
  decode .triangle [0x15, 0x0B] = .ok (.triEn 0x0B, []) ∧
  decode .pulse1 [0x04, 0x11] = .ok (.p1Unk 0x04 0x11, []) ∧
  decode .noise [0x17, 0x00] = .ok (.noiUnk 0x17 0x00, [])

/-- Decoding the bytes of a well-formed command, on a node of its identity, gives the command back with
every operand, and leaves the rest of the stream (R60, R62, R70). -/
def Obligations.DecodeOfEncodeIsTheCommand : Prop :=
  ∀ (i : Instr) (id : Identity) (bytes rest : List Byte),
    i.wellFormed = true → i.identity = some id → encode i = some bytes →
    decode id (bytes ++ rest) = .ok (i, rest)

/-- Decoding is total on all 65536 words for every identity, never gives an event or an ill-formed term,
and drops no bit: the command's encoding is the word (R60, R61, R68). -/
def Obligations.EveryWordDecodesAndKeepsItsBits : Prop :=
  ∀ (id : Identity) (a v : Byte) (rest : List Byte),
    ∃ i, decode id (a :: v :: rest) = .ok (i, rest) ∧ i.wellFormed = true ∧ i.identity = some id ∧
      encode i = some [a, v]

/-- For each identity 251 of the 256 addresses are UNKNOWN (R65). -/
def Obligations.EachIdentityHas251UnknownAddresses : Prop :=
  ∀ id : Identity,
    ((List.range 256).filter (fun n => classify id (BitVec.ofNat 8 n) = .unknown)).length = 251

/-- Ignored bits change nothing (R64): a Noise Reg0, Reg2 or Reg3 command has the same effect whatever its
ignored bits are, and an enable command whatever the other seven bits are. -/
def Obligations.IgnoredBitsChangeNothing : Prop :=
  (∀ (s : State) (ign ign' : BitVec 2) (h c : Bool) (vol : BitVec 4),
    exec (.noiReg0 ign h c vol) s = exec (.noiReg0 ign' h c vol) s) ∧
  (∀ (s : State) (m : Bool) (ign ign' : BitVec 3) (x : BitVec 4),
    exec (.noiReg2 m ign x) s = exec (.noiReg2 m ign' x) s) ∧
  (∀ (s : State) (l : BitVec 5) (ign ign' : BitVec 3),
    exec (.noiReg3 l ign) s = exec (.noiReg3 l ign') s) ∧
  (∀ (s : State) (v w : Byte),
    (s.identity = .pulse1 → v.getLsbD 0 = w.getLsbD 0 → exec (.p1En v) s = exec (.p1En w) s) ∧
    (s.identity = .pulse2 → v.getLsbD 1 = w.getLsbD 1 → exec (.p2En v) s = exec (.p2En w) s) ∧
    (s.identity = .triangle → v.getLsbD 2 = w.getLsbD 2 → exec (.triEn v) s = exec (.triEn w) s) ∧
    (s.identity = .noise → v.getLsbD 3 = w.getLsbD 3 → exec (.noiEn v) s = exec (.noiEn w) s))

/-! ### What a step does -/

/-- A step is the next event of the script, run to completion if it is enabled: `RESET` once and first, every
other event after it, `POP` with the FIFO not empty, `SAMPLE` with the clock running. An event that is not enabled
is spent with no effect (log 4, log 26), and with no event to come nothing happens. The script and the bit
`booted` are the model's own (log 3, log 26). -/
def Obligations.StepRunsTheNextEvent : Prop :=
  ∀ s : State, (s.script = [] → step s = .next s) ∧
    (∀ (e : Event) (es : List Event), s.script = e :: es →
      ∀ enabled : Prop, enabled = (match e with
          | .reset _ => s.booted = false
          | .push _ _ => s.booted = true
          | .pop => s.booted = true ∧ s.count ≠ 0
          | .frame => s.booted = true
          | .sample => s.booted = true ∧ s.clkRunning = true) →
        (enabled → step s = exec e.toInstr { s with script := es }) ∧
        (¬enabled → step s = .next { s with script := es }))

/-- When a node that has had its reset takes a `POP` next and the pair at the read index decodes to `i`, the step is `exec i` on the
state with the event taken off the script and the pair taken off the ring. -/
def Obligations.StepRunsTheDecodedCommand : Prop :=
  ∀ (s : State) (es : List Event) (i : Instr),
    s.booted = true → s.script = .pop :: es → s.count ≠ 0 →
    decode s.identity [s.memRead .addr s.rd, s.memRead .data s.rd] = .ok (i, []) →
    step s = exec i { s with script := es, rd := (s.rd + 1) % s.fifoCapacity, count := s.count - 1 }

/-! ### The register commands: result, frame and completion -/

/-- R81, R82, R45: Pulse Reg0, from the word and from the operands. Where the window begins (`base`) is the spec's
D2 and no part of this statement. -/
def Obligations.PulseReg0SetsEnvelopeHaltAndDuty : Prop :=
  (∀ v : Byte,
    decode .pulse1 [base .pulse1, v] =
      .ok (.p1Reg0 (v.extractLsb' 6 2) (v.getLsbD 5) (v.getLsbD 4) (v.extractLsb' 0 4), []) ∧
    decode .pulse2 [base .pulse2, v] =
      .ok (.p2Reg0 (v.extractLsb' 6 2) (v.getLsbD 5) (v.getLsbD 4) (v.extractLsb' 0 4), [])) ∧
  (∀ (s : State) (dy : BitVec 2) (h c : Bool) (vol : BitVec 4),
    exec (.p1Reg0 dy h c vol) s =
      .next { s with envReloadValue := vol, envConstFlag := c, lengthCounterHalt := h,
                     dutyCycle := [2, 4, 8, 12].getD dy.toNat 0 } ∧
    exec (.p2Reg0 dy h c vol) s =
      .next { s with envReloadValue := vol, envConstFlag := c, lengthCounterHalt := h,
                     dutyCycle := [2, 4, 8, 12].getD dy.toNat 0 })

/-- R83, R84: Pulse Reg1, from the word and from the operands; `base` is D2 and no part of this statement. -/
def Obligations.PulseReg1SetsTheSweepFields : Prop :=
  (∀ v : Byte,
    decode .pulse1 [base .pulse1 + 1, v] =
      .ok (.p1Reg1 (v.getLsbD 7) (v.extractLsb' 4 3) (v.getLsbD 3) (v.extractLsb' 0 3), []) ∧
    decode .pulse2 [base .pulse2 + 1, v] =
      .ok (.p2Reg1 (v.getLsbD 7) (v.extractLsb' 4 3) (v.getLsbD 3) (v.extractLsb' 0 3), [])) ∧
  (∀ (s : State) (e : Bool) (p : BitVec 3) (n : Bool) (sh : BitVec 3),
    exec (.p1Reg1 e p n sh) s =
      .next { s with sweepEnabled := e, sweepNegate := n, sweepShift := sh, sweepReloadFlag := true,
                     sweepDividerPeriod := BitVec.ofNat 4 (p.toNat + 1) } ∧
    exec (.p2Reg1 e p n sh) s =
      .next { s with sweepEnabled := e, sweepNegate := n, sweepShift := sh, sweepReloadFlag := true,
                     sweepDividerPeriod := BitVec.ofNat 4 (p.toNat + 1) })

/-- Reg2 of Pulse1, Pulse2 and Triangle: the low byte of the period is replaced, the high bits stay, and the
clock is reprogrammed. That the run condition is re-evaluated here is the spec's D14. -/
def Obligations.Reg2ReplacesTheLowByteAndReprograms : Prop :=
  ∀ (s : State) (t : Byte),
    (s.identity = .pulse1 → ∃ p : Period, p.toNat = 256 * (s.period.toNat / 256) + t.toNat ∧
      exec (.p1Reg2 t) s = .next { s with period := p, clkRate := p, clkRunning := decide (8 ≤ p.toNat) }) ∧
    (s.identity = .pulse2 → ∃ p : Period, p.toNat = 256 * (s.period.toNat / 256) + t.toNat ∧
      exec (.p2Reg2 t) s = .next { s with period := p, clkRate := p, clkRunning := decide (8 ≤ p.toNat) }) ∧
    (s.identity = .triangle → ∃ p : Period, p.toNat = 256 * (s.period.toNat / 256) + t.toNat ∧
      exec (.triReg2 t) s = .next { s with period := p, clkRate := p, clkRunning := decide (4 ≤ p.toNat) })

/-- R87, R88: Pulse Reg3, from the word and from the operands: the high bits of the period are replaced, the
low byte stays, the length is loaded, the envelope restarts, the clock stops below 8 and runs from 8 on. Neither
where the window begins (D2) nor the length table's entries (D5) are part of this statement. -/
def Obligations.PulseReg3LoadsLengthAndHighPeriod : Prop :=
  (∀ v : Byte,
    decode .pulse1 [base .pulse1 + 3, v] = .ok (.p1Reg3 (v.extractLsb' 3 5) (v.extractLsb' 0 3), []) ∧
    decode .pulse2 [base .pulse2 + 3, v] = .ok (.p2Reg3 (v.extractLsb' 3 5) (v.extractLsb' 0 3), [])) ∧
  (∀ (s : State) (l : BitVec 5) (t : BitVec 3),
    (s.identity = .pulse1 → ∃ p : Period, p.toNat = s.period.toNat % 256 + 256 * t.toNat ∧
      exec (.p1Reg3 l t) s =
        .next { s with period := p, lengthCounter := s.lengthTable[l.toNat]'l.isLt, envReloadFlag := true, clkRate := p,
                       clkRunning := decide (8 ≤ p.toNat) }) ∧
    (s.identity = .pulse2 → ∃ p : Period, p.toNat = s.period.toNat % 256 + 256 * t.toNat ∧
      exec (.p2Reg3 l t) s =
        .next { s with period := p, lengthCounter := s.lengthTable[l.toNat]'l.isLt, envReloadFlag := true, clkRate := p,
                       clkRunning := decide (8 ≤ p.toNat) }))

/-- R89: Triangle Reg0, from the word and from the operands; `base` is D2 and no part of this statement. -/
def Obligations.TriangleReg0SetsHaltAndReloadValue : Prop :=
  (∀ v : Byte, decode .triangle [base .triangle, v] = .ok (.triReg0 (v.getLsbD 7) (v.extractLsb' 0 7), [])) ∧
  (∀ (s : State) (h : Bool) (r : BitVec 7),
    exec (.triReg0 h r) s = .next { s with lengthCounterHalt := h, linearCounterReloadValue := r })

/-- R92: Triangle Reg3, from the word and from the operands; the clock stops below 4. Neither `base` (D2) nor the
length table's entries (D5) are part of this statement. -/
def Obligations.TriangleReg3LoadsLengthAndHighPeriod : Prop :=
  (∀ v : Byte,
    decode .triangle [base .triangle + 3, v] = .ok (.triReg3 (v.extractLsb' 3 5) (v.extractLsb' 0 3), [])) ∧
  (∀ (s : State) (l : BitVec 5) (t : BitVec 3), s.identity = .triangle →
    ∃ p : Period, p.toNat = s.period.toNat % 256 + 256 * t.toNat ∧
      exec (.triReg3 l t) s =
        .next { s with period := p, lengthCounter := s.lengthTable[l.toNat]'l.isLt, linearCounterReloadFlag := true,
                       clkRate := p, clkRunning := decide (4 ≤ p.toNat) })

/-- Noise Reg0 (R93), from the word and from the operands. That bits 7:6 are ignored is the spec's D26 (log 33). -/
def Obligations.NoiseReg0SetsEnvelopeAndHalt : Prop :=
  (∀ v : Byte,
    decode .noise [0x0C, v] =
      .ok (.noiReg0 (v.extractLsb' 6 2) (v.getLsbD 5) (v.getLsbD 4) (v.extractLsb' 0 4), [])) ∧
  (∀ (s : State) (ign : BitVec 2) (h c : Bool) (vol : BitVec 4),
    exec (.noiReg0 ign h c vol) s =
      .next { s with envReloadValue := vol, envConstFlag := c, lengthCounterHalt := h })

/-- Noise Reg2, from the word and from the operands: mode and index, the rate operand is the index, and the
clock runs whatever held before. That nothing else starts it is D16. -/
def Obligations.NoiseReg2SetsModeAndStartsTheClock : Prop :=
  (∀ v : Byte,
    decode .noise [0x0E, v] = .ok (.noiReg2 (v.getLsbD 7) (v.extractLsb' 4 3) (v.extractLsb' 0 4), [])) ∧
  (∀ (s : State) (m : Bool) (ign : BitVec 3) (x : BitVec 4),
    exec (.noiReg2 m ign x) s =
      .next { s with shiftMode := m, period := BitVec.ofNat 11 x.toNat, clkRate := BitVec.ofNat 11 x.toNat,
                     clkRunning := true })

/-- Noise Reg3, from the word and from the operands: length and envelope restart, neither period nor clock.
The index bits 7:3 are D15 and the untouched clock is D16. -/
def Obligations.NoiseReg3LoadsLengthOnly : Prop :=
  (∀ v : Byte, decode .noise [0x0F, v] = .ok (.noiReg3 (v.extractLsb' 3 5) (v.extractLsb' 0 3), [])) ∧
  (∀ (s : State) (l : BitVec 5) (ign : BitVec 3),
    exec (.noiReg3 l ign) s = .next { s with lengthCounter := s.lengthTable[l.toNat]'l.isLt, envReloadFlag := true })

/-- The enable command takes the node's own bit of the value and writes `enabled` alone. The bit positions
are the spec's D3, from general knowledge. -/
def Obligations.EnableTakesTheNodesOwnBit : Prop :=
  (∀ v : Byte, decode .pulse1 [0x15, v] = .ok (.p1En v, []) ∧ decode .pulse2 [0x15, v] = .ok (.p2En v, []) ∧
    decode .triangle [0x15, v] = .ok (.triEn v, []) ∧ decode .noise [0x15, v] = .ok (.noiEn v, [])) ∧
  (∀ (s : State) (v : Byte),
    (s.identity = .pulse1 → exec (.p1En v) s = .next { s with enabled := v.getLsbD 0 }) ∧
    (s.identity = .pulse2 → exec (.p2En v) s = .next { s with enabled := v.getLsbD 1 }) ∧
    (s.identity = .triangle → exec (.triEn v) s = .next { s with enabled := v.getLsbD 2 }) ∧
    (s.identity = .noise → exec (.noiEn v) s = .next { s with enabled := v.getLsbD 3 }))

/-- An UNKNOWN command, and Reg1 of Triangle and Noise (D17), leave one note with the whole pair and nothing
else. How the note is kept is D23 (log 23). -/
def Obligations.UnknownCommandsLeaveOnlyANote : Prop :=
  ∀ (s : State) (a v : Byte),
    exec (.p1Unk a v) s =
      .next { s with notes := s.notes ++ [.unknownRegister a v], unknownCount := s.unknownCount + 1 } ∧
    exec (.p2Unk a v) s =
      .next { s with notes := s.notes ++ [.unknownRegister a v], unknownCount := s.unknownCount + 1 } ∧
    exec (.triUnk a v) s =
      .next { s with notes := s.notes ++ [.unknownRegister a v], unknownCount := s.unknownCount + 1 } ∧
    exec (.noiUnk a v) s =
      .next { s with notes := s.notes ++ [.unknownRegister a v], unknownCount := s.unknownCount + 1 } ∧
    exec (.triReg1 v) s =
      .next { s with notes := s.notes ++ [.unknownRegister 0x09 v], unknownCount := s.unknownCount + 1 } ∧
    exec (.noiReg1 v) s =
      .next { s with notes := s.notes ++ [.unknownRegister 0x0D v], unknownCount := s.unknownCount + 1 }

/-- The length table is a field of the machine, whose default is the 32 values of R46, and the default meets the
constraints: entry 1 is 254 and every entry is in 1..254. The entries but the first are the spec's D5 (log 11). -/
def Obligations.LengthTableEntriesAreInRange : Prop :=
  (∀ i : Fin 32, State.reset.lengthTable[i] =
    [10, 254, 20, 2, 40, 4, 80, 6, 160, 8, 60, 10, 14, 12, 26, 14,
      12, 16, 24, 18, 48, 20, 96, 22, 192, 24, 72, 26, 16, 28, 32, 30].getD i.val 0) ∧
  State.reset.lengthTable[1] = 254 ∧
  ∀ i : Fin 32, 1 ≤ State.reset.lengthTable[i].toNat ∧ State.reset.lengthTable[i].toNat ≤ 254

/-- No command writes a field of the Frame Sequencer or the Sample Generator, the FIFO or the identity. -/
def Obligations.NoCommandWritesSequencerState : Prop :=
  ∀ (i : Instr) (id : Identity) (s t : State), i.identity = some id → exec i s = .next t →
    t.volume = s.volume ∧ t.envVolume = s.envVolume ∧ t.envDivider = s.envDivider ∧
    t.sweepDividerCounter = s.sweepDividerCounter ∧ t.linearCounter = s.linearCounter ∧
    t.shiftRegister = s.shiftRegister ∧ t.frameParity = s.frameParity ∧ t.pulseStep = s.pulseStep ∧
    t.triStep = s.triStep ∧ t.dacOut = s.dacOut ∧ t.identity = s.identity ∧
    t.qAddr = s.qAddr ∧ t.qData = s.qData ∧ t.wr = s.wr ∧ t.rd = s.rd ∧ t.count = s.count ∧
    t.overflowCount = s.overflowCount ∧ t.fifoLog2 = s.fifoLog2 ∧ t.lengthTable = s.lengthTable ∧
    t.booted = s.booted ∧ t.script = s.script

/-- Running the same command twice, with nothing between, leaves what running it once leaves, but for the
notes. -/
def Obligations.CommandTwiceIsCommandOnce : Prop :=
  ∀ (i : Instr) (id : Identity) (s t : State), i.identity = some id → exec i s = .next t →
    ∃ u, exec i t = .next u ∧ { u with notes := t.notes, unknownCount := t.unknownCount } = t

/-! ### RESET -/

/-- What `RESET(CFG)` leaves, field by field, for every configuration and from every state (when it is enabled is
StepRunsTheNextEvent); the capacity, the length table and the script are the model's own and stay (log 2, log 11,
log 3), and `booted` says from then on that the reset has happened (log 26). The zeros of the fields that are no counters are the
spec's D9, D20, D21 and D28 (log 5), the LFSR seed on every identity log 6, the identities its D1. `State.reset` is what a reset with its own `CFG` leaves. -/
def Obligations.ResetLeavesTheStatedValues : Prop :=
  (∀ (cfg : BitVec 2) (s : State),
    exec (.reset cfg) s = .next
      { identity := [Identity.pulse1, .pulse2, .triangle, .noise].getD cfg.toNat .pulse1
        enabled := false, period := 0, lengthCounter := 0, lengthCounterHalt := false, volume := 0
        envConstFlag := false, envReloadValue := 0, envDivider := 0, envVolume := 0, envReloadFlag := false
        dutyCycle := 0, sweepEnabled := false, sweepNegate := false, sweepShift := 0
        sweepDividerPeriod := 0, sweepDividerCounter := 0, sweepReloadFlag := false
        linearCounter := 0, linearCounterReloadValue := 0, linearCounterReloadFlag := false
        shiftRegister := 1, shiftMode := false, frameParity := false, pulseStep := 0, triStep := 0
        dacOut := 0, clkRunning := false, clkRate := 0, qAddr := [], qData := [], wr := 0, rd := 0, count := 0
        unknownCount := 0, overflowCount := 0, notes := [], fifoLog2 := s.fifoLog2
        lengthTable := s.lengthTable, booted := true, script := s.script }) ∧
  (∃ cfg : BitVec 2, exec (.reset cfg) State.reset = .next State.reset)

/-- Every invariant of a safe state holds after reset, for every configuration, capacity, script and every length
table under its constraints (D5, log 11). It rests on the reset zeros that are the spec's D9, D20, D21 and D28
(log 5), on the LFSR seed on every identity (log 6), and on the model's forms of a record for all identities
(log 7), of the trace of notes (log 23) and of the FIFO storage (log 24). -/
def Obligations.ResetStateIsSafe : Prop :=
  (∀ (cfg : BitVec 2) (s t : State), TableWf s → exec (.reset cfg) s = .next t → Safe t) ∧ Safe State.reset

/-- A `FRAME` in the reset state changes `frame_parity` and nothing else, and a second one changes it back. -/
def Obligations.FrameAfterResetOnlyTogglesParity : Prop :=
  ∀ (cfg : BitVec 2) (s r : State), exec (.reset cfg) s = .next r →
    exec .frame r = .next { r with frameParity := true } ∧
    exec .frame { r with frameParity := true } = .next r

/-! ### PUSH and POP -/

/-- On a ring in order (R141, R142), `PUSH` appends the pair as the newest of the sequence; on a full one it
first drops exactly the oldest, with a note; the two bytes are stored at the write index, the ring's indices and
count move as the rule says, and no field of the Channel State changes. The ring is the spec's D7 in the form of
log 24, the note and its counter are its D23 (log 23). -/
def Obligations.PushAppendsAndDropsTheOldestWhenFull : Prop :=
  ∀ (s : State) (a v : Byte), FifoWf s →
    ∃ t, exec (.push a v) s = .next t ∧
      (s.queue.length ≠ s.fifoCapacity →
        t.queue = s.queue ++ [(a, v)] ∧ t.rd = s.rd ∧ t.count = s.count + 1 ∧ t.notes = s.notes ∧
        t.overflowCount = s.overflowCount) ∧
      (∀ (p : Byte × Byte) (q : List (Byte × Byte)), s.queue.length = s.fifoCapacity → s.queue = p :: q →
        t.queue = q ++ [(a, v)] ∧ t.rd = (s.rd + 1) % s.fifoCapacity ∧ t.count = s.fifoCapacity ∧
        t.notes = s.notes ++ [.fifoOverflow p.1 p.2] ∧ t.overflowCount = s.overflowCount + 1) ∧
      t.memRead .addr s.wr = a ∧ t.memRead .data s.wr = v ∧ t.wr = (s.wr + 1) % s.fifoCapacity ∧
      t = { s with qAddr := t.qAddr, qData := t.qData, wr := t.wr, rd := t.rd, count := t.count,
                   notes := t.notes, overflowCount := t.overflowCount }

/-- `PUSH` stores its two bytes at the write index, one in each array, and every other byte of both arrays
reads as before; from every state, full or not. -/
def Obligations.PushStoresAtTheWriteIndexOnly : Prop :=
  ∀ (s : State) (a v : Byte), ∃ t, exec (.push a v) s = .next t ∧
    t.memRead .addr s.wr = a ∧ t.memRead .data s.wr = v ∧
    ∀ (q : QArray) (i : Nat), i ≠ s.wr → t.memRead q i = s.memRead q i

/-- `POP` takes the oldest pair off the sequence, runs the command it decodes to on this node, and completes;
the bytes of the storage stay. On an empty FIFO nothing happens (log 4). -/
def Obligations.PopRunsTheOldestPair : Prop :=
  ∀ s : State, FifoWf s →
    (∀ (p : Byte × Byte) (q : List (Byte × Byte)), s.queue = p :: q →
      ∃ i t, decode s.identity [p.1, p.2] = .ok (i, []) ∧
        exec .pop s = .next t ∧
        exec i { s with rd := (s.rd + 1) % s.fifoCapacity, count := s.count - 1 } = .next t ∧
        t.queue = q ∧ t.rd = (s.rd + 1) % s.fifoCapacity ∧ t.wr = s.wr ∧
        ∀ (a : QArray) (n : Nat), t.memRead a n = s.memRead a n) ∧
    (s.queue = [] → exec .pop s = .next s)

/-- A pair pushed into an empty FIFO is what the next `POP` decodes: two steps of the machine are the
command's own effect, on a ring whose indices have both moved by one. -/
def Obligations.PushThenPopRunsThePushedCommand : Prop :=
  ∀ (s : State) (a v : Byte) (es : List Event) (i : Instr),
    FifoWf s → s.booted = true → s.count = 0 → s.script = .push a v :: .pop :: es → decode s.identity [a, v] = .ok (i, []) →
    ∃ m, step s = .next m ∧
      step m = exec i { s with qAddr := m.qAddr, qData := m.qData, wr := (s.wr + 1) % s.fifoCapacity,
                               rd := (s.rd + 1) % s.fifoCapacity, script := es }

/-! ### FRAME -/

/-- R112: on a half-frame edge the length counter goes down by one, saturating at 0, unless halted; on the
others it stays; on every identity. Which edges are half-frame edges is `HALF_FRAME_PHASE` (D8, log 12). -/
def Obligations.FrameCountsTheLengthDown : Prop :=
  ∀ s : State, ∃ t, exec .frame s = .next t ∧
    t.lengthCounter.toNat =
      if halfFrameEdge s.frameParity = true ∧ s.lengthCounterHalt = false then s.lengthCounter.toNat - 1
      else s.lengthCounter.toNat

/-- `frame_parity` toggles on every `FRAME`; of two consecutive edges exactly one is a half-frame edge, and
from reset it is the second (D8). -/
def Obligations.FrameTogglesParityAndEverySecondEdgeIsHalf : Prop :=
  (∀ s : State, ∃ t, exec .frame s = .next t ∧ t.frameParity = !s.frameParity ∧
    halfFrameEdge t.frameParity = !halfFrameEdge s.frameParity) ∧
  halfFrameEdge State.reset.frameParity = false

/-- R116: the envelope of Pulse1, Pulse2 and Noise, on every edge. -/
def Obligations.FrameRunsTheEnvelope : Prop :=
  ∀ s : State, s.identity ≠ .triangle → ∃ t, exec .frame s = .next t ∧
    (s.envReloadFlag = true → t.envReloadFlag = false ∧ t.envDivider = s.envReloadValue ∧ t.envVolume = 15) ∧
    (s.envReloadFlag = false → t.envReloadFlag = false ∧
      (s.envDivider = 0 → t.envDivider = s.envReloadValue ∧
        t.envVolume.toNat =
          if s.envVolume.toNat > 0 then s.envVolume.toNat - 1 else if s.lengthCounterHalt then 15 else 0) ∧
      (s.envDivider ≠ 0 → t.envDivider.toNat = s.envDivider.toNat - 1 ∧ t.envVolume = s.envVolume))

/-- R117: the linear counter of Triangle, on every edge. -/
def Obligations.FrameRunsTheLinearCounter : Prop :=
  ∀ s : State, s.identity = .triangle → ∃ t, exec .frame s = .next t ∧
    (s.linearCounterReloadFlag = true → t.linearCounter = s.linearCounterReloadValue) ∧
    (s.linearCounterReloadFlag = false → t.linearCounter.toNat = s.linearCounter.toNat - 1) ∧
    t.linearCounterReloadFlag = (s.lengthCounterHalt && s.linearCounterReloadFlag)

/-- The volume at the end of a `FRAME` is 0 with the length counter run out, else the constant or the envelope
as steps 5 and 1 of the same edge left them; a sweep mute does not outlive the edge (D13), and a Triangle's
volume is only forced to 0 (D18). -/
def Obligations.FrameRecomputesTheVolume : Prop :=
  ∀ s : State, ∃ t, exec .frame s = .next t ∧
    (t.lengthCounter = 0 → t.volume = 0) ∧
    (t.lengthCounter ≠ 0 → s.identity ≠ .triangle →
      t.volume = if t.envConstFlag then t.envReloadValue else t.envVolume) ∧
    (t.lengthCounter ≠ 0 → s.identity = .triangle → t.volume = s.volume)

/-- The sweep unit, in integers: the target adds or subtracts `period / 2^shift`, Pulse1 subtracting one more;
it is evaluated when the divider counter was 0 and committed when enabled, with the period at least 8 and the
target in 0..0x7FF; the clock follows the commit; the reload flag reloads the divider and is cleared. That a
negative target counts as out of range is D12, that the run condition follows a commit is D14. -/
def Obligations.FrameRunsTheSweepUnit : Prop :=
  ∀ s : State, s.identity = .pulse1 ∨ s.identity = .pulse2 → ∃ t, exec .frame s = .next t ∧
    ∀ period delta target : Int, period = (s.period.toNat : Int) →
      delta = ((s.period.toNat / 2 ^ s.sweepShift.toNat : Nat) : Int) →
      target = (if s.sweepNegate then (if s.identity = .pulse1 then period - delta - 1 else period - delta)
        else period + delta) →
      (halfFrameEdge s.frameParity = false →
        t.period = s.period ∧ t.clkRate = s.clkRate ∧ t.clkRunning = s.clkRunning ∧
        t.sweepDividerCounter = s.sweepDividerCounter ∧ t.sweepReloadFlag = s.sweepReloadFlag) ∧
      (halfFrameEdge s.frameParity = true →
        t.sweepReloadFlag = false ∧
        (s.sweepReloadFlag = true ∨ s.sweepDividerCounter = 0 → t.sweepDividerCounter = s.sweepDividerPeriod) ∧
        (s.sweepReloadFlag = false → s.sweepDividerCounter ≠ 0 →
          t.sweepDividerCounter.toNat = s.sweepDividerCounter.toNat - 1) ∧
        (s.sweepDividerCounter = 0 ∧ s.sweepEnabled = true ∧ 8 ≤ period ∧ 0 ≤ target ∧ target ≤ 0x7FF →
          (t.period.toNat : Int) = target ∧ t.clkRate = t.period ∧ t.clkRunning = decide (8 ≤ t.period.toNat)) ∧
        (¬(s.sweepDividerCounter = 0 ∧ s.sweepEnabled = true ∧ 8 ≤ period ∧ 0 ≤ target ∧ target ≤ 0x7FF) →
          t.period = s.period ∧ t.clkRate = s.clkRate ∧ t.clkRunning = s.clkRunning))

/-- For the same period and shift, with negate set, Pulse1's target is Pulse2's minus 1 modulo 2^16, for a zero
delta too. -/
def Obligations.SweepTargetsOfThePulseUnitsDifferByOne : Prop :=
  ∀ (p : Period) (sh : BitVec 3), sweepTargetOf .pulse1 p sh true + 1 = sweepTargetOf .pulse2 p sh true

/-- A Noise node's sample clock stops (R119) at the end of every `FRAME` that leaves `volume = 0` and is left as
it was by the others; the DAC and the LFSR keep their values. That the DAC holds is the spec's D21 (log 31), that
nothing else in a `FRAME` stops or restarts the clock its D16 (log 17). -/
def Obligations.FrameStopsAMutedNoiseClock : Prop :=
  ∀ s : State, s.identity = .noise → ∃ t, exec .frame s = .next t ∧
    (t.volume = 0 → t.clkRunning = false) ∧ (t.volume ≠ 0 → t.clkRunning = s.clkRunning) ∧
    t.dacOut = s.dacOut ∧ t.shiftRegister = s.shiftRegister

/-- What a `FRAME` leaves unchanged, by identity: only the fields of the steps that run on the identity change
(that the envelope does not run on Triangle is D19), and no byte of memory. -/
def Obligations.FrameWritesOnlyTheStepsFields : Prop :=
  ∀ s : State, ∃ t, exec .frame s = .next t ∧
    (s.identity = .pulse1 ∨ s.identity = .pulse2 →
      t = { s with frameParity := t.frameParity, lengthCounter := t.lengthCounter, volume := t.volume,
                   period := t.period, clkRate := t.clkRate, clkRunning := t.clkRunning,
                   sweepDividerCounter := t.sweepDividerCounter, sweepReloadFlag := t.sweepReloadFlag,
                   envDivider := t.envDivider, envVolume := t.envVolume, envReloadFlag := t.envReloadFlag }) ∧
    (s.identity = .triangle →
      t = { s with frameParity := t.frameParity, lengthCounter := t.lengthCounter, volume := t.volume,
                   linearCounter := t.linearCounter,
                   linearCounterReloadFlag := t.linearCounterReloadFlag }) ∧
    (s.identity = .noise →
      t = { s with frameParity := t.frameParity, lengthCounter := t.lengthCounter, volume := t.volume,
                   clkRunning := t.clkRunning, envDivider := t.envDivider, envVolume := t.envVolume,
                   envReloadFlag := t.envReloadFlag }) ∧
    ∀ (a : QArray) (n : Nat), t.memRead a n = s.memRead a n

/-! ### SAMPLE -/

/-- A tick of a pulse node: the step advances modulo 16, and the DAC takes `volume` on a high step and 0 on the
others. That the new step is compared is D11. -/
def Obligations.SampleRunsTheDutyCycle : Prop :=
  ∀ s : State, s.clkRunning = true → s.identity = .pulse1 ∨ s.identity = .pulse2 →
    exec .sample s =
      .next { s with pulseStep := BitVec.ofNat 4 (s.pulseStep.toNat + 1),
                     dacOut := if (s.pulseStep.toNat + 1) % 16 < s.dutyCycle.toNat then s.volume else 0 }

/-- A tick of a triangle node: with the gate open the step advances modulo 32 and the DAC takes the ramp (the
new step is D11); with it closed nothing is written. -/
def Obligations.SampleRunsTheTriangleRamp : Prop :=
  ∀ s : State, s.clkRunning = true → s.identity = .triangle →
    (0 < s.linearCounter.toNat ∧ 0 < s.lengthCounter.toNat →
      exec .sample s =
        .next { s with triStep := BitVec.ofNat 5 (s.triStep.toNat + 1),
                       dacOut := BitVec.ofNat 4 (if (s.triStep.toNat + 1) % 32 < 16 then (s.triStep.toNat + 1) % 32
                         else 31 - (s.triStep.toNat + 1) % 32) }) ∧
    (s.linearCounter = 0 ∨ s.lengthCounter = 0 → exec .sample s = .next s)

/-- R133: a tick of a noise node, in numbers: the register is halved, the feedback (bit 0 xor bit 1, or bit 6 in
short mode, of the old value) enters as bit 14, and the DAC takes `volume` when bit 0 of the new value is 0. -/
def Obligations.SampleRunsTheLfsr : Prop :=
  ∀ s : State, s.clkRunning = true → s.identity = .noise →
    ∃ r : BitVec 15,
      r.toNat = s.shiftRegister.toNat / 2 + 0x4000 *
        ((s.shiftRegister.toNat + s.shiftRegister.toNat / (if s.shiftMode then 64 else 2)) % 2) ∧
      exec .sample s =
        .next { s with shiftRegister := r, dacOut := if r.toNat % 2 = 0 then s.volume else 0 }

/-- With the sample clock stopped a tick does not happen (log 4): no generator advances and the DAC keeps its
value. -/
def Obligations.SampleOfAStoppedClockChangesNothing : Prop :=
  ∀ s : State, s.clkRunning = false → exec .sample s = .next s

/-- In a run whose next events are 16 ticks a pulse node puts out `volume` exactly `duty_cycle` times and 0 the
other times, and ends on the step it began with, wherever it begins. -/
def Obligations.PulsePeriodHasDutyCycleHighTicks : Prop :=
  ∀ (s : State) (es : List Event), s.booted = true → s.clkRunning = true →
    s.identity = .pulse1 ∨ s.identity = .pulse2 → s.volume ≠ 0 → s.script = List.replicate 16 .sample ++ es →
    ∃ o, observe 16 s = o ∧ o.dac.length = 16 ∧ o.dac.count s.volume = s.dutyCycle.toNat ∧
      o.dac.count 0 = 16 - s.dutyCycle.toNat ∧ o.final.pulseStep = s.pulseStep ∧ o.final.script = es

/-- In a run whose next events are 32 ticks an open triangle puts out each of the 16 levels exactly twice, and ends
on the step it began with. With the gate closed the trace still has one value a `SAMPLE`, the level held. -/
def Obligations.TrianglePeriodHasEachLevelTwice : Prop :=
  ∀ (s : State) (es : List Event), s.booted = true → s.clkRunning = true → s.identity = .triangle →
    s.script = List.replicate 32 .sample ++ es →
    ∃ o, observe 32 s = o ∧ o.dac.length = 32 ∧ o.final.script = es ∧
      (s.linearCounter ≠ 0 ∧ s.lengthCounter ≠ 0 →
        (∀ x : BitVec 4, o.dac.count x = 2) ∧ o.final.triStep = s.triStep) ∧
      (s.linearCounter = 0 ∨ s.lengthCounter = 0 →
        o.dac = List.replicate 32 s.dacOut ∧ o.final = { s with script := es })

/-- From the seed, the short mode of the LFSR returns to the seed after 93 ticks and not before. -/
def Obligations.LfsrShortModeHasPeriod93 : Prop :=
  ∀ s : State, s.clkRunning = true → s.identity = .noise → s.shiftMode = true → s.shiftRegister = 1 →
    (afterTicks 93 s).shiftRegister = 1 ∧
    ∀ k, 0 < k → k < 93 → (afterTicks k s).shiftRegister ≠ 1

/-- From the seed, the long mode of the LFSR returns to the seed after 32767 ticks and not before. -/
def Obligations.LfsrLongModeHasPeriod32767 : Prop :=
  ∀ s : State, s.clkRunning = true → s.identity = .noise → s.shiftMode = false → s.shiftRegister = 1 →
    (afterTicks 32767 s).shiftRegister = 1 ∧
    ∀ k, 0 < k → k < 32767 → (afterTicks k s).shiftRegister ≠ 1

/-! ### Invariants that every step keeps -/

/-- On every state, a step keeps R154's equation between the period, the rate operand and the run bit. That the
equation is meant at every reprogram is D14, that a stopped clock with period 0 meets it at reset D20. -/
def Obligations.StepKeepsTheClockEquation : Prop :=
  ∀ s t : State, ClockWf s → step s = .next t → ClockWf t

/-- A step keeps: `length_counter = 0` implies `volume = 0`. It needs that no entry of the length table is 0, one of
the table's constraints (D5, log 11), which OnlyResetChangesTheIdentity says every step keeps. -/
def Obligations.StepKeepsTheMuteImplication : Prop :=
  ∀ s t : State, TableWf s → MuteWf s → step s = .next t → MuteWf t

/-- A step keeps the LFSR from ever being 0, in both modes and through mode changes. -/
def Obligations.StepKeepsTheLfsrNonZero : Prop :=
  ∀ s t : State, LfsrWf s → step s = .next t → LfsrWf t

/-- A step keeps the FIFO ring in order: canonical memories, indices in bounds, no slot used that was not
written, no cell outside the arrays. The ring's indices and count are the spec's D7; the canonical lists, the
unwritten slots and the cells outside are about the model's form of the storage (log 24, DESIGN CHOICE). -/
def Obligations.StepKeepsTheFifoInOrder : Prop :=
  ∀ s t : State, FifoWf s → OccupiedWritten s → StorageBounded s → step s = .next t →
    FifoWf t ∧ OccupiedWritten t ∧ StorageBounded t

/-- A step keeps every field in the range R11's table gives it, for every length table under its constraints (D5);
the ranges not named in `RangeWf` are the fields' widths (D28, D32). A `duty_cycle` and a `sweep_divider_period`
that have left their reset value 0 do not go back to it: the table has 0 before the first Reg0 or Reg1 only. -/
def Obligations.StepKeepsTheFieldRanges : Prop :=
  ∀ s t : State, TableWf s → RangeWf s → step s = .next t →
    RangeWf t ∧
    (s.booted = true → (s.dutyCycle ≠ 0 → t.dutyCycle ≠ 0) ∧
      (s.sweepDividerPeriod ≠ 0 → t.sweepDividerPeriod ≠ 0))

/-- A step keeps every field that the node's identity does not have at its reset value, and a Triangle's volume
at 0 (D18). -/
def Obligations.StepKeepsTheFieldsOfOtherIdentities : Prop :=
  ∀ s t : State, IdentityWf s → step s = .next t → IdentityWf t

/-- A step keeps each counter equal to the number of notes of its code. -/
def Obligations.StepKeepsTheNoteCounts : Prop :=
  ∀ s t : State, NotesWf s → step s = .next t → NotesWf t

/-- From a safe state, every state of every run of any length is safe. `Safe` rests on the spec's D5 (log 11),
D14 (log 15), D18 (log 19), D7 and D23, and on the model's forms of logs 7, 23 and 24. -/
def Obligations.SafeStatesRunSafely : Prop :=
  ∀ (s : State) (k : Nat), Safe s → SafeRun k s

/-! ### Rules about the whole machine -/

/-- R160: no command and no event faults or is refused, in any state and with any operand, and no step is. -/
def Obligations.NothingFaultsOrIsRefused : Prop :=
  (∀ (i : Instr) (s : State), ∃ t, exec i s = .next t) ∧ ∀ s : State, ∃ t, step s = .next t

/-- The identity, the capacity and the length table are fixed for the life of a node: after its reset no step
changes the identity or undoes the reset, so a second `RESET` does nothing; before it no event but a `RESET` has an
effect, and none ever changes the capacity or the table. That the reset is recorded in `booted` is log 26, that
the two parameters are fields log 2 and log 11. -/
def Obligations.OnlyResetChangesTheIdentity : Prop :=
  ∀ s t : State, step s = .next t → t.fifoLog2 = s.fifoLog2 ∧ t.lengthTable = s.lengthTable ∧
    (s.booted = true → t.booted = true ∧ t.identity = s.identity) ∧
    (∀ (cfg : BitVec 2) (es : List Event), s.booted = true → s.script = .reset cfg :: es →
      t = { s with script := es }) ∧
    (s.booted = false → t = { s with script := s.script.tail } ∨
      ∃ (cfg : BitVec 2) (es : List Event), s.script = .reset cfg :: es ∧ t.booted = true ∧
        exec (.reset cfg) { s with script := es } = .next t)

/-- The length counter rises only by a Reg3 command: when a step makes it greater, that step popped a pair
whose address is Reg3 of the node. -/
def Obligations.LengthRisesOnlyByReg3 : Prop :=
  ∀ s t : State, step s = .next t → s.lengthCounter.toNat < t.lengthCounter.toNat →
    ∃ es : List Event, s.script = .pop :: es ∧ s.count ≠ 0 ∧
      (s.memRead .addr s.rd).toNat = [(3 : Nat), 7, 11, 15].getD
        (match s.identity with | .pulse1 => 0 | .pulse2 => 1 | .triangle => 2 | .noise => 3) 0

/-- The only step that starts a Noise node's stopped sample clock is a `POP` of a pair with address 0x0E
(D16). -/
def Obligations.OnlyReg2StartsANoiseClock : Prop :=
  ∀ s t : State, s.identity = .noise → s.clkRunning = false → step s = .next t → t.clkRunning = true →
    ∃ es : List Event, s.script = .pop :: es ∧ s.count ≠ 0 ∧ s.memRead .addr s.rd = 0x0E

/-- `dac_out` changes only in a `SAMPLE` of a running clock (or in the one `RESET`) (D21, log 31); so at the end of
every run of a node that has had its reset, `dac_out` is the last value of the run's trace, or the one it began
with where the trace has none, and the trace has at most one value for each `SAMPLE` among the run's events. -/
def Obligations.DacChangesOnlyInASample : Prop :=
  (∀ s t : State, step s = .next t → t.dacOut ≠ s.dacOut →
    (∃ es : List Event, s.script = .sample :: es ∧ s.booted = true ∧ s.clkRunning = true) ∨
    (∃ (cfg : BitVec 2) (es : List Event), s.script = .reset cfg :: es ∧ s.booted = false)) ∧
  (∀ (s : State) (k : Nat), s.booted = true →
    (observe k s).final.dacOut = (observe k s).dac.getLast?.getD s.dacOut ∧
    (observe k s).dac.length ≤ (s.script.take k).count .sample)

/-- `enabled` gates nothing (D4): two states that differ in it alone take every command and every event to
states that differ in it alone. -/
def Obligations.EnabledGatesNothing : Prop :=
  ∀ (i : Instr) (s t : State) (b : Bool), exec i s = .next t →
    ∃ u, exec i { s with enabled := b } = .next u ∧ { u with enabled := t.enabled } = t

/-- The notes never feed back (D23): two states that differ in the trace and its counters alone take every
command and every event to states that differ in them alone. -/
def Obligations.NotesFeedNothingBack : Prop :=
  ∀ (i : Instr) (s t : State) (ns : List Note) (m n : Nat), exec i s = .next t →
    ∃ u, exec i { s with notes := ns, unknownCount := m, overflowCount := n } = .next u ∧
      { u with notes := t.notes, unknownCount := t.unknownCount, overflowCount := t.overflowCount } = t
end

