-- ==== Sys2Proof/Laws/Decode.lean ====
section
/-! SUPPORT. The classification and the field layouts: what decoding a pair can give, and that packing
and extracting the fields of a value byte undo each other. -/

namespace Sys2Proof

/-- The class of an address is UNKNOWN exactly when WellFormed lets an UNKNOWN row have it. -/
theorem classify_unknown_iff (id : Identity) (a : Byte) :
    classify id a = .unknown ↔ unclaimed id a = true := by
  cases id <;> revert a <;> decide

/-- Every register class has one address on each identity (R70). -/
theorem classify_reg_iff (id : Identity) (a : Byte) :
    (classify id a = .reg0 ↔ a = base id) ∧ (classify id a = .reg1 ↔ a = base id + 1) ∧
    (classify id a = .reg2 ↔ a = base id + 2) ∧ (classify id a = .reg3 ↔ a = base id + 3) ∧
    (classify id a = .enable ↔ a = enableAddr) := by
  cases id <;> revert a <;> decide

/-- A decoded command is a row of the node's own identity. -/
@[simp] theorem decodeCommand_identity (id : Identity) (a v : Byte) :
    (decodeCommand id a v).identity = some id := by
  unfold decodeCommand
  cases id <;> cases classify _ a <;> rfl

/-- Extracting the fields of Reg0 and packing them gives the byte back. -/
@[simp] theorem packReg0_fields (v : Byte) :
    packReg0 (field v 6 2) (bit v 5) (bit v 4) (field v 0 4) = v := by revert v; decide

/-- The same for Pulse Reg1. -/
@[simp] theorem packReg1_fields (v : Byte) :
    packReg1 (bit v 7) (field v 4 3) (bit v 3) (field v 0 3) = v := by revert v; decide

/-- The same for every Reg3. -/
@[simp] theorem packReg3_fields (v : Byte) : packReg3 (field v 3 5) (field v 0 3) = v := by
  revert v; decide

/-- The same for Triangle Reg0. -/
@[simp] theorem packTriReg0_fields (v : Byte) : packTriReg0 (bit v 7) (field v 0 7) = v := by
  revert v; decide

/-- The same for Noise Reg2. -/
@[simp] theorem packNoiReg2_fields (v : Byte) :
    packNoiReg2 (bit v 7) (field v 4 3) (field v 0 4) = v := by revert v; decide

/-- The fields of a packed Reg0 byte. -/
theorem fields_packReg0 (dy : BitVec 2) (h c : Bool) (vol : BitVec 4) :
    field (packReg0 dy h c vol) 6 2 = dy ∧ bit (packReg0 dy h c vol) 5 = h ∧
    bit (packReg0 dy h c vol) 4 = c ∧ field (packReg0 dy h c vol) 0 4 = vol := by
  revert dy h c vol; decide

/-- The fields of a packed Pulse Reg1 byte. -/
theorem fields_packReg1 (e : Bool) (p : BitVec 3) (n : Bool) (sh : BitVec 3) :
    bit (packReg1 e p n sh) 7 = e ∧ field (packReg1 e p n sh) 4 3 = p ∧
    bit (packReg1 e p n sh) 3 = n ∧ field (packReg1 e p n sh) 0 3 = sh := by
  revert e p n sh; decide

/-- The fields of a packed Reg3 byte. -/
theorem fields_packReg3 (l : BitVec 5) (t : BitVec 3) :
    field (packReg3 l t) 3 5 = l ∧ field (packReg3 l t) 0 3 = t := by revert l t; decide

/-- The fields of a packed Triangle Reg0 byte. -/
theorem fields_packTriReg0 (h : Bool) (r : BitVec 7) :
    bit (packTriReg0 h r) 7 = h ∧ field (packTriReg0 h r) 0 7 = r := by revert h r; decide

/-- The fields of a packed Noise Reg2 byte. -/
theorem fields_packNoiReg2 (m : Bool) (ign : BitVec 3) (x : BitVec 4) :
    bit (packNoiReg2 m ign x) 7 = m ∧ field (packNoiReg2 m ign x) 4 3 = ign ∧
    field (packNoiReg2 m ign x) 0 4 = x := by revert m ign x; decide

end Sys2Proof
end

