-- ==== Sys2Proof/Laws/Memory.lean ====
section
/-! SUPPORT. The laws of the FIFO storage: read after write, the frame of a write, and the canonical
form. -/

namespace Sys2Proof.Machine

/-- Reading the index just written gives the byte written. -/
@[simp] theorem Memory.read_write_same (m : Memory) (i : Nat) (b : Byte) :
    (m.write i b).read i = some b := by
  induction m with
  | nil => simp [Memory.write, Memory.read]
  | cons c rest ih =>
    obtain ⟨j, x⟩ := c
    by_cases h1 : i < j
    · simp [Memory.write, Memory.read, h1]
    · by_cases h2 : i = j
      · simp [Memory.write, Memory.read, h2]
      · have h3 : j ≠ i := fun h => h2 h.symm
        simp [Memory.write, Memory.read, h1, h2, h3, ih]

/-- A write leaves every other index alone. -/
theorem Memory.read_write_other (m : Memory) {i k : Nat} (b : Byte) (h : k ≠ i) :
    (m.write i b).read k = m.read k := by
  induction m with
  | nil => simp [Memory.write, Memory.read, h.symm]
  | cons c rest ih =>
    obtain ⟨j, x⟩ := c
    by_cases h1 : i < j
    · simp [Memory.write, Memory.read, h1, h.symm]
    · by_cases h2 : i = j
      · subst h2; simp [Memory.write, Memory.read, h.symm]
      · simp [Memory.write, Memory.read, h1, h2, ih]

/-- The indices a write lists: the old ones and the one written. -/
theorem Memory.mem_write {m : Memory} {i : Nat} {b : Byte} {c : Host.Cell} (h : c ∈ m.write i b) :
    c = (i, b) ∨ c ∈ m := by
  induction m with
  | nil => simpa [Memory.write] using h
  | cons d rest ih =>
    obtain ⟨j, x⟩ := d
    unfold Memory.write at h
    split at h
    · simpa using h
    · split at h
      · rcases List.mem_cons.1 h with h | h
        · exact .inl h
        · exact .inr (List.mem_cons_of_mem _ h)
      · rcases List.mem_cons.1 h with h | h
        · exact .inr (h ▸ List.mem_cons_self)
        · exact (ih h).imp id (List.mem_cons_of_mem _)

/-- A write keeps the canonical form. -/
theorem Memory.wf_write {m : Memory} (i : Nat) (b : Byte) (h : m.wf) : (m.write i b).wf := by
  induction m with
  | nil => simp [Memory.write, Memory.wf]
  | cons c rest ih =>
    obtain ⟨j, x⟩ := c
    obtain ⟨hlow, hrest⟩ := List.pairwise_cons.1 h
    unfold Memory.write
    split
    · rename_i hij
      refine List.pairwise_cons.2 ⟨fun y hy => ?_, h⟩
      rcases List.mem_cons.1 hy with rfl | hy
      · exact hij
      · exact lt_trans hij (hlow y hy)
    · split
      · rename_i hij
        subst hij
        exact List.pairwise_cons.2 ⟨hlow, hrest⟩
      · rename_i h1 h2
        refine List.pairwise_cons.2 ⟨fun y hy => ?_, ih hrest⟩
        rcases Memory.mem_write hy with rfl | hy
        · exact Nat.lt_of_le_of_ne (Nat.not_lt.1 h1) (fun hh => h2 hh.symm)
        · exact hlow y hy

/-- A write puts no cell outside a bound that its own index and the memory keep. -/
theorem Memory.bounded_write {m : Memory} {i n : Nat} (b : Byte) (hi : i < n) (h : ∀ c ∈ m, c.1 < n) :
    ∀ c ∈ m.write i b, c.1 < n := by
  intro c hc
  rcases Memory.mem_write hc with rfl | hc
  · exact hi
  · exact h c hc

variable (s : State)

/-- `MemRead` after `MemWrite` of the same array and index. -/
@[simp] theorem memRead_memWrite_same (q : QArray) (i : Nat) (b : Byte) :
    (State.memWrite q i b s).memRead q i = b := by
  cases q <;> simp [State.memRead, State.memWrite, State.array]

/-- `MemWrite` leaves every other byte of both arrays alone. -/
theorem memRead_memWrite_other {q p : QArray} {i k : Nat} (b : Byte) (h : p ≠ q ∨ k ≠ i) :
    (State.memWrite q i b s).memRead p k = s.memRead p k := by
  cases q <;> cases p <;> simp_all [State.memRead, State.memWrite, State.array, Memory.read_write_other]

/-- Both arrays keep the canonical form through a `MemWrite`. -/
theorem wf_memWrite (q : QArray) (i : Nat) (b : Byte) (p : QArray) (h : (s.array p).wf) :
    ((State.memWrite q i b s).array p).wf := by
  cases q <;> cases p <;> simp_all [State.memWrite, State.array, Memory.wf_write]

/-- Both arrays are in canonical form after reset. -/
theorem wf_reset (q : QArray) : (State.reset.array q).wf := by cases q <;> exact List.Pairwise.nil

end Sys2Proof.Machine
end

