-- ==== Sys2Proof/Laws/State.lean ====
section
/-! SUPPORT. What each named operation over the state leaves in each field, one lemma a field, so that no
later proof unfolds a record update. -/

namespace Sys2Proof.Machine

variable (s : State)

@[simp] theorem note_identity (n : Note) : (note n s).identity = s.identity := rfl
@[simp] theorem note_enabled (n : Note) : (note n s).enabled = s.enabled := rfl
@[simp] theorem note_period (n : Note) : (note n s).period = s.period := rfl
@[simp] theorem note_lengthCounter (n : Note) : (note n s).lengthCounter = s.lengthCounter := rfl
@[simp] theorem note_lengthCounterHalt (n : Note) : (note n s).lengthCounterHalt = s.lengthCounterHalt := rfl
@[simp] theorem note_volume (n : Note) : (note n s).volume = s.volume := rfl
@[simp] theorem note_envConstFlag (n : Note) : (note n s).envConstFlag = s.envConstFlag := rfl
@[simp] theorem note_envReloadValue (n : Note) : (note n s).envReloadValue = s.envReloadValue := rfl
@[simp] theorem note_envDivider (n : Note) : (note n s).envDivider = s.envDivider := rfl
@[simp] theorem note_envVolume (n : Note) : (note n s).envVolume = s.envVolume := rfl
@[simp] theorem note_envReloadFlag (n : Note) : (note n s).envReloadFlag = s.envReloadFlag := rfl
@[simp] theorem note_dutyCycle (n : Note) : (note n s).dutyCycle = s.dutyCycle := rfl
@[simp] theorem note_sweepEnabled (n : Note) : (note n s).sweepEnabled = s.sweepEnabled := rfl
@[simp] theorem note_sweepNegate (n : Note) : (note n s).sweepNegate = s.sweepNegate := rfl
@[simp] theorem note_sweepShift (n : Note) : (note n s).sweepShift = s.sweepShift := rfl
@[simp] theorem note_sweepDividerPeriod (n : Note) : (note n s).sweepDividerPeriod = s.sweepDividerPeriod := rfl
@[simp] theorem note_sweepDividerCounter (n : Note) : (note n s).sweepDividerCounter = s.sweepDividerCounter := rfl
@[simp] theorem note_sweepReloadFlag (n : Note) : (note n s).sweepReloadFlag = s.sweepReloadFlag := rfl
@[simp] theorem note_linearCounter (n : Note) : (note n s).linearCounter = s.linearCounter := rfl
@[simp] theorem note_linearCounterReloadValue (n : Note) : (note n s).linearCounterReloadValue = s.linearCounterReloadValue := rfl
@[simp] theorem note_linearCounterReloadFlag (n : Note) : (note n s).linearCounterReloadFlag = s.linearCounterReloadFlag := rfl
@[simp] theorem note_shiftRegister (n : Note) : (note n s).shiftRegister = s.shiftRegister := rfl
@[simp] theorem note_shiftMode (n : Note) : (note n s).shiftMode = s.shiftMode := rfl
@[simp] theorem note_frameParity (n : Note) : (note n s).frameParity = s.frameParity := rfl
@[simp] theorem note_pulseStep (n : Note) : (note n s).pulseStep = s.pulseStep := rfl
@[simp] theorem note_triStep (n : Note) : (note n s).triStep = s.triStep := rfl
@[simp] theorem note_dacOut (n : Note) : (note n s).dacOut = s.dacOut := rfl
@[simp] theorem note_clkRunning (n : Note) : (note n s).clkRunning = s.clkRunning := rfl
@[simp] theorem note_clkRate (n : Note) : (note n s).clkRate = s.clkRate := rfl
@[simp] theorem note_qAddr (n : Note) : (note n s).qAddr = s.qAddr := rfl
@[simp] theorem note_qData (n : Note) : (note n s).qData = s.qData := rfl
@[simp] theorem note_wr (n : Note) : (note n s).wr = s.wr := rfl
@[simp] theorem note_rd (n : Note) : (note n s).rd = s.rd := rfl
@[simp] theorem note_count (n : Note) : (note n s).count = s.count := rfl
@[simp] theorem note_unknownCount (n : Note) : (note n s).unknownCount = if noteCode n = 1 then s.unknownCount + 1 else s.unknownCount := rfl
@[simp] theorem note_overflowCount (n : Note) : (note n s).overflowCount = if noteCode n = 2 then s.overflowCount + 1 else s.overflowCount := rfl
@[simp] theorem note_notes (n : Note) : (note n s).notes = s.notes ++ [n] := rfl
@[simp] theorem note_fifoLog2 (n : Note) : (note n s).fifoLog2 = s.fifoLog2 := rfl
@[simp] theorem note_lengthTable (n : Note) : (note n s).lengthTable = s.lengthTable := rfl
@[simp] theorem note_booted (n : Note) : (note n s).booted = s.booted := rfl
@[simp] theorem note_script (n : Note) : (note n s).script = s.script := rfl

@[simp] theorem memWrite_identity (q : QArray) (i : Nat) (b : Byte) : (State.memWrite q i b s).identity = s.identity := rfl
@[simp] theorem memWrite_enabled (q : QArray) (i : Nat) (b : Byte) : (State.memWrite q i b s).enabled = s.enabled := rfl
@[simp] theorem memWrite_period (q : QArray) (i : Nat) (b : Byte) : (State.memWrite q i b s).period = s.period := rfl
@[simp] theorem memWrite_lengthCounter (q : QArray) (i : Nat) (b : Byte) : (State.memWrite q i b s).lengthCounter = s.lengthCounter := rfl
@[simp] theorem memWrite_lengthCounterHalt (q : QArray) (i : Nat) (b : Byte) : (State.memWrite q i b s).lengthCounterHalt = s.lengthCounterHalt := rfl
@[simp] theorem memWrite_volume (q : QArray) (i : Nat) (b : Byte) : (State.memWrite q i b s).volume = s.volume := rfl
@[simp] theorem memWrite_envConstFlag (q : QArray) (i : Nat) (b : Byte) : (State.memWrite q i b s).envConstFlag = s.envConstFlag := rfl
@[simp] theorem memWrite_envReloadValue (q : QArray) (i : Nat) (b : Byte) : (State.memWrite q i b s).envReloadValue = s.envReloadValue := rfl
@[simp] theorem memWrite_envDivider (q : QArray) (i : Nat) (b : Byte) : (State.memWrite q i b s).envDivider = s.envDivider := rfl
@[simp] theorem memWrite_envVolume (q : QArray) (i : Nat) (b : Byte) : (State.memWrite q i b s).envVolume = s.envVolume := rfl
@[simp] theorem memWrite_envReloadFlag (q : QArray) (i : Nat) (b : Byte) : (State.memWrite q i b s).envReloadFlag = s.envReloadFlag := rfl
@[simp] theorem memWrite_dutyCycle (q : QArray) (i : Nat) (b : Byte) : (State.memWrite q i b s).dutyCycle = s.dutyCycle := rfl
@[simp] theorem memWrite_sweepEnabled (q : QArray) (i : Nat) (b : Byte) : (State.memWrite q i b s).sweepEnabled = s.sweepEnabled := rfl
@[simp] theorem memWrite_sweepNegate (q : QArray) (i : Nat) (b : Byte) : (State.memWrite q i b s).sweepNegate = s.sweepNegate := rfl
@[simp] theorem memWrite_sweepShift (q : QArray) (i : Nat) (b : Byte) : (State.memWrite q i b s).sweepShift = s.sweepShift := rfl
@[simp] theorem memWrite_sweepDividerPeriod (q : QArray) (i : Nat) (b : Byte) : (State.memWrite q i b s).sweepDividerPeriod = s.sweepDividerPeriod := rfl
@[simp] theorem memWrite_sweepDividerCounter (q : QArray) (i : Nat) (b : Byte) : (State.memWrite q i b s).sweepDividerCounter = s.sweepDividerCounter := rfl
@[simp] theorem memWrite_sweepReloadFlag (q : QArray) (i : Nat) (b : Byte) : (State.memWrite q i b s).sweepReloadFlag = s.sweepReloadFlag := rfl
@[simp] theorem memWrite_linearCounter (q : QArray) (i : Nat) (b : Byte) : (State.memWrite q i b s).linearCounter = s.linearCounter := rfl
@[simp] theorem memWrite_linearCounterReloadValue (q : QArray) (i : Nat) (b : Byte) : (State.memWrite q i b s).linearCounterReloadValue = s.linearCounterReloadValue := rfl
@[simp] theorem memWrite_linearCounterReloadFlag (q : QArray) (i : Nat) (b : Byte) : (State.memWrite q i b s).linearCounterReloadFlag = s.linearCounterReloadFlag := rfl
@[simp] theorem memWrite_shiftRegister (q : QArray) (i : Nat) (b : Byte) : (State.memWrite q i b s).shiftRegister = s.shiftRegister := rfl
@[simp] theorem memWrite_shiftMode (q : QArray) (i : Nat) (b : Byte) : (State.memWrite q i b s).shiftMode = s.shiftMode := rfl
@[simp] theorem memWrite_frameParity (q : QArray) (i : Nat) (b : Byte) : (State.memWrite q i b s).frameParity = s.frameParity := rfl
@[simp] theorem memWrite_pulseStep (q : QArray) (i : Nat) (b : Byte) : (State.memWrite q i b s).pulseStep = s.pulseStep := rfl
@[simp] theorem memWrite_triStep (q : QArray) (i : Nat) (b : Byte) : (State.memWrite q i b s).triStep = s.triStep := rfl
@[simp] theorem memWrite_dacOut (q : QArray) (i : Nat) (b : Byte) : (State.memWrite q i b s).dacOut = s.dacOut := rfl
@[simp] theorem memWrite_clkRunning (q : QArray) (i : Nat) (b : Byte) : (State.memWrite q i b s).clkRunning = s.clkRunning := rfl
@[simp] theorem memWrite_clkRate (q : QArray) (i : Nat) (b : Byte) : (State.memWrite q i b s).clkRate = s.clkRate := rfl
@[simp] theorem memWrite_qAddr (q : QArray) (i : Nat) (b : Byte) : (State.memWrite q i b s).qAddr = if q = .addr then s.qAddr.write i b else s.qAddr := rfl
@[simp] theorem memWrite_qData (q : QArray) (i : Nat) (b : Byte) : (State.memWrite q i b s).qData = if q = .data then s.qData.write i b else s.qData := rfl
@[simp] theorem memWrite_wr (q : QArray) (i : Nat) (b : Byte) : (State.memWrite q i b s).wr = s.wr := rfl
@[simp] theorem memWrite_rd (q : QArray) (i : Nat) (b : Byte) : (State.memWrite q i b s).rd = s.rd := rfl
@[simp] theorem memWrite_count (q : QArray) (i : Nat) (b : Byte) : (State.memWrite q i b s).count = s.count := rfl
@[simp] theorem memWrite_unknownCount (q : QArray) (i : Nat) (b : Byte) : (State.memWrite q i b s).unknownCount = s.unknownCount := rfl
@[simp] theorem memWrite_overflowCount (q : QArray) (i : Nat) (b : Byte) : (State.memWrite q i b s).overflowCount = s.overflowCount := rfl
@[simp] theorem memWrite_notes (q : QArray) (i : Nat) (b : Byte) : (State.memWrite q i b s).notes = s.notes := rfl
@[simp] theorem memWrite_fifoLog2 (q : QArray) (i : Nat) (b : Byte) : (State.memWrite q i b s).fifoLog2 = s.fifoLog2 := rfl
@[simp] theorem memWrite_lengthTable (q : QArray) (i : Nat) (b : Byte) : (State.memWrite q i b s).lengthTable = s.lengthTable := rfl
@[simp] theorem memWrite_booted (q : QArray) (i : Nat) (b : Byte) : (State.memWrite q i b s).booted = s.booted := rfl
@[simp] theorem memWrite_script (q : QArray) (i : Nat) (b : Byte) : (State.memWrite q i b s).script = s.script := rfl

@[simp] theorem dropHead_identity : (dropHead s).identity = s.identity := rfl
@[simp] theorem dropHead_enabled : (dropHead s).enabled = s.enabled := rfl
@[simp] theorem dropHead_period : (dropHead s).period = s.period := rfl
@[simp] theorem dropHead_lengthCounter : (dropHead s).lengthCounter = s.lengthCounter := rfl
@[simp] theorem dropHead_lengthCounterHalt : (dropHead s).lengthCounterHalt = s.lengthCounterHalt := rfl
@[simp] theorem dropHead_volume : (dropHead s).volume = s.volume := rfl
@[simp] theorem dropHead_envConstFlag : (dropHead s).envConstFlag = s.envConstFlag := rfl
@[simp] theorem dropHead_envReloadValue : (dropHead s).envReloadValue = s.envReloadValue := rfl
@[simp] theorem dropHead_envDivider : (dropHead s).envDivider = s.envDivider := rfl
@[simp] theorem dropHead_envVolume : (dropHead s).envVolume = s.envVolume := rfl
@[simp] theorem dropHead_envReloadFlag : (dropHead s).envReloadFlag = s.envReloadFlag := rfl
@[simp] theorem dropHead_dutyCycle : (dropHead s).dutyCycle = s.dutyCycle := rfl
@[simp] theorem dropHead_sweepEnabled : (dropHead s).sweepEnabled = s.sweepEnabled := rfl
@[simp] theorem dropHead_sweepNegate : (dropHead s).sweepNegate = s.sweepNegate := rfl
@[simp] theorem dropHead_sweepShift : (dropHead s).sweepShift = s.sweepShift := rfl
@[simp] theorem dropHead_sweepDividerPeriod : (dropHead s).sweepDividerPeriod = s.sweepDividerPeriod := rfl
@[simp] theorem dropHead_sweepDividerCounter : (dropHead s).sweepDividerCounter = s.sweepDividerCounter := rfl
@[simp] theorem dropHead_sweepReloadFlag : (dropHead s).sweepReloadFlag = s.sweepReloadFlag := rfl
@[simp] theorem dropHead_linearCounter : (dropHead s).linearCounter = s.linearCounter := rfl
@[simp] theorem dropHead_linearCounterReloadValue : (dropHead s).linearCounterReloadValue = s.linearCounterReloadValue := rfl
@[simp] theorem dropHead_linearCounterReloadFlag : (dropHead s).linearCounterReloadFlag = s.linearCounterReloadFlag := rfl
@[simp] theorem dropHead_shiftRegister : (dropHead s).shiftRegister = s.shiftRegister := rfl
@[simp] theorem dropHead_shiftMode : (dropHead s).shiftMode = s.shiftMode := rfl
@[simp] theorem dropHead_frameParity : (dropHead s).frameParity = s.frameParity := rfl
@[simp] theorem dropHead_pulseStep : (dropHead s).pulseStep = s.pulseStep := rfl
@[simp] theorem dropHead_triStep : (dropHead s).triStep = s.triStep := rfl
@[simp] theorem dropHead_dacOut : (dropHead s).dacOut = s.dacOut := rfl
@[simp] theorem dropHead_clkRunning : (dropHead s).clkRunning = s.clkRunning := rfl
@[simp] theorem dropHead_clkRate : (dropHead s).clkRate = s.clkRate := rfl
@[simp] theorem dropHead_qAddr : (dropHead s).qAddr = s.qAddr := rfl
@[simp] theorem dropHead_qData : (dropHead s).qData = s.qData := rfl
@[simp] theorem dropHead_wr : (dropHead s).wr = s.wr := rfl
@[simp] theorem dropHead_rd : (dropHead s).rd = s.wrap (s.rd + 1) := rfl
@[simp] theorem dropHead_count : (dropHead s).count = s.count - 1 := rfl
@[simp] theorem dropHead_unknownCount : (dropHead s).unknownCount = s.unknownCount := rfl
@[simp] theorem dropHead_overflowCount : (dropHead s).overflowCount = s.overflowCount := rfl
@[simp] theorem dropHead_notes : (dropHead s).notes = s.notes := rfl
@[simp] theorem dropHead_fifoLog2 : (dropHead s).fifoLog2 = s.fifoLog2 := rfl
@[simp] theorem dropHead_lengthTable : (dropHead s).lengthTable = s.lengthTable := rfl
@[simp] theorem dropHead_booted : (dropHead s).booted = s.booted := rfl
@[simp] theorem dropHead_script : (dropHead s).script = s.script := rfl

@[simp] theorem appendPair_identity (a v : Byte) : (appendPair a v s).identity = s.identity := rfl
@[simp] theorem appendPair_enabled (a v : Byte) : (appendPair a v s).enabled = s.enabled := rfl
@[simp] theorem appendPair_period (a v : Byte) : (appendPair a v s).period = s.period := rfl
@[simp] theorem appendPair_lengthCounter (a v : Byte) : (appendPair a v s).lengthCounter = s.lengthCounter := rfl
@[simp] theorem appendPair_lengthCounterHalt (a v : Byte) : (appendPair a v s).lengthCounterHalt = s.lengthCounterHalt := rfl
@[simp] theorem appendPair_volume (a v : Byte) : (appendPair a v s).volume = s.volume := rfl
@[simp] theorem appendPair_envConstFlag (a v : Byte) : (appendPair a v s).envConstFlag = s.envConstFlag := rfl
@[simp] theorem appendPair_envReloadValue (a v : Byte) : (appendPair a v s).envReloadValue = s.envReloadValue := rfl
@[simp] theorem appendPair_envDivider (a v : Byte) : (appendPair a v s).envDivider = s.envDivider := rfl
@[simp] theorem appendPair_envVolume (a v : Byte) : (appendPair a v s).envVolume = s.envVolume := rfl
@[simp] theorem appendPair_envReloadFlag (a v : Byte) : (appendPair a v s).envReloadFlag = s.envReloadFlag := rfl
@[simp] theorem appendPair_dutyCycle (a v : Byte) : (appendPair a v s).dutyCycle = s.dutyCycle := rfl
@[simp] theorem appendPair_sweepEnabled (a v : Byte) : (appendPair a v s).sweepEnabled = s.sweepEnabled := rfl
@[simp] theorem appendPair_sweepNegate (a v : Byte) : (appendPair a v s).sweepNegate = s.sweepNegate := rfl
@[simp] theorem appendPair_sweepShift (a v : Byte) : (appendPair a v s).sweepShift = s.sweepShift := rfl
@[simp] theorem appendPair_sweepDividerPeriod (a v : Byte) : (appendPair a v s).sweepDividerPeriod = s.sweepDividerPeriod := rfl
@[simp] theorem appendPair_sweepDividerCounter (a v : Byte) : (appendPair a v s).sweepDividerCounter = s.sweepDividerCounter := rfl
@[simp] theorem appendPair_sweepReloadFlag (a v : Byte) : (appendPair a v s).sweepReloadFlag = s.sweepReloadFlag := rfl
@[simp] theorem appendPair_linearCounter (a v : Byte) : (appendPair a v s).linearCounter = s.linearCounter := rfl
@[simp] theorem appendPair_linearCounterReloadValue (a v : Byte) : (appendPair a v s).linearCounterReloadValue = s.linearCounterReloadValue := rfl
@[simp] theorem appendPair_linearCounterReloadFlag (a v : Byte) : (appendPair a v s).linearCounterReloadFlag = s.linearCounterReloadFlag := rfl
@[simp] theorem appendPair_shiftRegister (a v : Byte) : (appendPair a v s).shiftRegister = s.shiftRegister := rfl
@[simp] theorem appendPair_shiftMode (a v : Byte) : (appendPair a v s).shiftMode = s.shiftMode := rfl
@[simp] theorem appendPair_frameParity (a v : Byte) : (appendPair a v s).frameParity = s.frameParity := rfl
@[simp] theorem appendPair_pulseStep (a v : Byte) : (appendPair a v s).pulseStep = s.pulseStep := rfl
@[simp] theorem appendPair_triStep (a v : Byte) : (appendPair a v s).triStep = s.triStep := rfl
@[simp] theorem appendPair_dacOut (a v : Byte) : (appendPair a v s).dacOut = s.dacOut := rfl
@[simp] theorem appendPair_clkRunning (a v : Byte) : (appendPair a v s).clkRunning = s.clkRunning := rfl
@[simp] theorem appendPair_clkRate (a v : Byte) : (appendPair a v s).clkRate = s.clkRate := rfl
@[simp] theorem appendPair_qAddr (a v : Byte) : (appendPair a v s).qAddr = s.qAddr.write s.wr a := rfl
@[simp] theorem appendPair_qData (a v : Byte) : (appendPair a v s).qData = s.qData.write s.wr v := rfl
@[simp] theorem appendPair_wr (a v : Byte) : (appendPair a v s).wr = s.wrap (s.wr + 1) := rfl
@[simp] theorem appendPair_rd (a v : Byte) : (appendPair a v s).rd = s.rd := rfl
@[simp] theorem appendPair_count (a v : Byte) : (appendPair a v s).count = s.count + 1 := rfl
@[simp] theorem appendPair_unknownCount (a v : Byte) : (appendPair a v s).unknownCount = s.unknownCount := rfl
@[simp] theorem appendPair_overflowCount (a v : Byte) : (appendPair a v s).overflowCount = s.overflowCount := rfl
@[simp] theorem appendPair_notes (a v : Byte) : (appendPair a v s).notes = s.notes := rfl
@[simp] theorem appendPair_fifoLog2 (a v : Byte) : (appendPair a v s).fifoLog2 = s.fifoLog2 := rfl
@[simp] theorem appendPair_lengthTable (a v : Byte) : (appendPair a v s).lengthTable = s.lengthTable := rfl
@[simp] theorem appendPair_booted (a v : Byte) : (appendPair a v s).booted = s.booted := rfl
@[simp] theorem appendPair_script (a v : Byte) : (appendPair a v s).script = s.script := rfl

@[simp] theorem clockProgram_identity (r : Period) : (clockProgram r s).identity = s.identity := rfl
@[simp] theorem clockProgram_enabled (r : Period) : (clockProgram r s).enabled = s.enabled := rfl
@[simp] theorem clockProgram_period (r : Period) : (clockProgram r s).period = s.period := rfl
@[simp] theorem clockProgram_lengthCounter (r : Period) : (clockProgram r s).lengthCounter = s.lengthCounter := rfl
@[simp] theorem clockProgram_lengthCounterHalt (r : Period) : (clockProgram r s).lengthCounterHalt = s.lengthCounterHalt := rfl
@[simp] theorem clockProgram_volume (r : Period) : (clockProgram r s).volume = s.volume := rfl
@[simp] theorem clockProgram_envConstFlag (r : Period) : (clockProgram r s).envConstFlag = s.envConstFlag := rfl
@[simp] theorem clockProgram_envReloadValue (r : Period) : (clockProgram r s).envReloadValue = s.envReloadValue := rfl
@[simp] theorem clockProgram_envDivider (r : Period) : (clockProgram r s).envDivider = s.envDivider := rfl
@[simp] theorem clockProgram_envVolume (r : Period) : (clockProgram r s).envVolume = s.envVolume := rfl
@[simp] theorem clockProgram_envReloadFlag (r : Period) : (clockProgram r s).envReloadFlag = s.envReloadFlag := rfl
@[simp] theorem clockProgram_dutyCycle (r : Period) : (clockProgram r s).dutyCycle = s.dutyCycle := rfl
@[simp] theorem clockProgram_sweepEnabled (r : Period) : (clockProgram r s).sweepEnabled = s.sweepEnabled := rfl
@[simp] theorem clockProgram_sweepNegate (r : Period) : (clockProgram r s).sweepNegate = s.sweepNegate := rfl
@[simp] theorem clockProgram_sweepShift (r : Period) : (clockProgram r s).sweepShift = s.sweepShift := rfl
@[simp] theorem clockProgram_sweepDividerPeriod (r : Period) : (clockProgram r s).sweepDividerPeriod = s.sweepDividerPeriod := rfl
@[simp] theorem clockProgram_sweepDividerCounter (r : Period) : (clockProgram r s).sweepDividerCounter = s.sweepDividerCounter := rfl
@[simp] theorem clockProgram_sweepReloadFlag (r : Period) : (clockProgram r s).sweepReloadFlag = s.sweepReloadFlag := rfl
@[simp] theorem clockProgram_linearCounter (r : Period) : (clockProgram r s).linearCounter = s.linearCounter := rfl
@[simp] theorem clockProgram_linearCounterReloadValue (r : Period) : (clockProgram r s).linearCounterReloadValue = s.linearCounterReloadValue := rfl
@[simp] theorem clockProgram_linearCounterReloadFlag (r : Period) : (clockProgram r s).linearCounterReloadFlag = s.linearCounterReloadFlag := rfl
@[simp] theorem clockProgram_shiftRegister (r : Period) : (clockProgram r s).shiftRegister = s.shiftRegister := rfl
@[simp] theorem clockProgram_shiftMode (r : Period) : (clockProgram r s).shiftMode = s.shiftMode := rfl
@[simp] theorem clockProgram_frameParity (r : Period) : (clockProgram r s).frameParity = s.frameParity := rfl
@[simp] theorem clockProgram_pulseStep (r : Period) : (clockProgram r s).pulseStep = s.pulseStep := rfl
@[simp] theorem clockProgram_triStep (r : Period) : (clockProgram r s).triStep = s.triStep := rfl
@[simp] theorem clockProgram_dacOut (r : Period) : (clockProgram r s).dacOut = s.dacOut := rfl
@[simp] theorem clockProgram_clkRunning (r : Period) : (clockProgram r s).clkRunning = runCondition s.identity r s.clkRunning := rfl
@[simp] theorem clockProgram_clkRate (r : Period) : (clockProgram r s).clkRate = r := rfl
@[simp] theorem clockProgram_qAddr (r : Period) : (clockProgram r s).qAddr = s.qAddr := rfl
@[simp] theorem clockProgram_qData (r : Period) : (clockProgram r s).qData = s.qData := rfl
@[simp] theorem clockProgram_wr (r : Period) : (clockProgram r s).wr = s.wr := rfl
@[simp] theorem clockProgram_rd (r : Period) : (clockProgram r s).rd = s.rd := rfl
@[simp] theorem clockProgram_count (r : Period) : (clockProgram r s).count = s.count := rfl
@[simp] theorem clockProgram_unknownCount (r : Period) : (clockProgram r s).unknownCount = s.unknownCount := rfl
@[simp] theorem clockProgram_overflowCount (r : Period) : (clockProgram r s).overflowCount = s.overflowCount := rfl
@[simp] theorem clockProgram_notes (r : Period) : (clockProgram r s).notes = s.notes := rfl
@[simp] theorem clockProgram_fifoLog2 (r : Period) : (clockProgram r s).fifoLog2 = s.fifoLog2 := rfl
@[simp] theorem clockProgram_lengthTable (r : Period) : (clockProgram r s).lengthTable = s.lengthTable := rfl
@[simp] theorem clockProgram_booted (r : Period) : (clockProgram r s).booted = s.booted := rfl
@[simp] theorem clockProgram_script (r : Period) : (clockProgram r s).script = s.script := rfl

@[simp] theorem clockRun_identity (b : Bool) : (clockRun b s).identity = s.identity := rfl
@[simp] theorem clockRun_enabled (b : Bool) : (clockRun b s).enabled = s.enabled := rfl
@[simp] theorem clockRun_period (b : Bool) : (clockRun b s).period = s.period := rfl
@[simp] theorem clockRun_lengthCounter (b : Bool) : (clockRun b s).lengthCounter = s.lengthCounter := rfl
@[simp] theorem clockRun_lengthCounterHalt (b : Bool) : (clockRun b s).lengthCounterHalt = s.lengthCounterHalt := rfl
@[simp] theorem clockRun_volume (b : Bool) : (clockRun b s).volume = s.volume := rfl
@[simp] theorem clockRun_envConstFlag (b : Bool) : (clockRun b s).envConstFlag = s.envConstFlag := rfl
@[simp] theorem clockRun_envReloadValue (b : Bool) : (clockRun b s).envReloadValue = s.envReloadValue := rfl
@[simp] theorem clockRun_envDivider (b : Bool) : (clockRun b s).envDivider = s.envDivider := rfl
@[simp] theorem clockRun_envVolume (b : Bool) : (clockRun b s).envVolume = s.envVolume := rfl
@[simp] theorem clockRun_envReloadFlag (b : Bool) : (clockRun b s).envReloadFlag = s.envReloadFlag := rfl
@[simp] theorem clockRun_dutyCycle (b : Bool) : (clockRun b s).dutyCycle = s.dutyCycle := rfl
@[simp] theorem clockRun_sweepEnabled (b : Bool) : (clockRun b s).sweepEnabled = s.sweepEnabled := rfl
@[simp] theorem clockRun_sweepNegate (b : Bool) : (clockRun b s).sweepNegate = s.sweepNegate := rfl
@[simp] theorem clockRun_sweepShift (b : Bool) : (clockRun b s).sweepShift = s.sweepShift := rfl
@[simp] theorem clockRun_sweepDividerPeriod (b : Bool) : (clockRun b s).sweepDividerPeriod = s.sweepDividerPeriod := rfl
@[simp] theorem clockRun_sweepDividerCounter (b : Bool) : (clockRun b s).sweepDividerCounter = s.sweepDividerCounter := rfl
@[simp] theorem clockRun_sweepReloadFlag (b : Bool) : (clockRun b s).sweepReloadFlag = s.sweepReloadFlag := rfl
@[simp] theorem clockRun_linearCounter (b : Bool) : (clockRun b s).linearCounter = s.linearCounter := rfl
@[simp] theorem clockRun_linearCounterReloadValue (b : Bool) : (clockRun b s).linearCounterReloadValue = s.linearCounterReloadValue := rfl
@[simp] theorem clockRun_linearCounterReloadFlag (b : Bool) : (clockRun b s).linearCounterReloadFlag = s.linearCounterReloadFlag := rfl
@[simp] theorem clockRun_shiftRegister (b : Bool) : (clockRun b s).shiftRegister = s.shiftRegister := rfl
@[simp] theorem clockRun_shiftMode (b : Bool) : (clockRun b s).shiftMode = s.shiftMode := rfl
@[simp] theorem clockRun_frameParity (b : Bool) : (clockRun b s).frameParity = s.frameParity := rfl
@[simp] theorem clockRun_pulseStep (b : Bool) : (clockRun b s).pulseStep = s.pulseStep := rfl
@[simp] theorem clockRun_triStep (b : Bool) : (clockRun b s).triStep = s.triStep := rfl
@[simp] theorem clockRun_dacOut (b : Bool) : (clockRun b s).dacOut = s.dacOut := rfl
@[simp] theorem clockRun_clkRunning (b : Bool) : (clockRun b s).clkRunning = b := rfl
@[simp] theorem clockRun_clkRate (b : Bool) : (clockRun b s).clkRate = s.clkRate := rfl
@[simp] theorem clockRun_qAddr (b : Bool) : (clockRun b s).qAddr = s.qAddr := rfl
@[simp] theorem clockRun_qData (b : Bool) : (clockRun b s).qData = s.qData := rfl
@[simp] theorem clockRun_wr (b : Bool) : (clockRun b s).wr = s.wr := rfl
@[simp] theorem clockRun_rd (b : Bool) : (clockRun b s).rd = s.rd := rfl
@[simp] theorem clockRun_count (b : Bool) : (clockRun b s).count = s.count := rfl
@[simp] theorem clockRun_unknownCount (b : Bool) : (clockRun b s).unknownCount = s.unknownCount := rfl
@[simp] theorem clockRun_overflowCount (b : Bool) : (clockRun b s).overflowCount = s.overflowCount := rfl
@[simp] theorem clockRun_notes (b : Bool) : (clockRun b s).notes = s.notes := rfl
@[simp] theorem clockRun_fifoLog2 (b : Bool) : (clockRun b s).fifoLog2 = s.fifoLog2 := rfl
@[simp] theorem clockRun_lengthTable (b : Bool) : (clockRun b s).lengthTable = s.lengthTable := rfl
@[simp] theorem clockRun_booted (b : Bool) : (clockRun b s).booted = s.booted := rfl
@[simp] theorem clockRun_script (b : Bool) : (clockRun b s).script = s.script := rfl

@[simp] theorem setPeriod_identity (p : Period) : (setPeriod p s).identity = s.identity := rfl
@[simp] theorem setPeriod_enabled (p : Period) : (setPeriod p s).enabled = s.enabled := rfl
@[simp] theorem setPeriod_period (p : Period) : (setPeriod p s).period = p := rfl
@[simp] theorem setPeriod_lengthCounter (p : Period) : (setPeriod p s).lengthCounter = s.lengthCounter := rfl
@[simp] theorem setPeriod_lengthCounterHalt (p : Period) : (setPeriod p s).lengthCounterHalt = s.lengthCounterHalt := rfl
@[simp] theorem setPeriod_volume (p : Period) : (setPeriod p s).volume = s.volume := rfl
@[simp] theorem setPeriod_envConstFlag (p : Period) : (setPeriod p s).envConstFlag = s.envConstFlag := rfl
@[simp] theorem setPeriod_envReloadValue (p : Period) : (setPeriod p s).envReloadValue = s.envReloadValue := rfl
@[simp] theorem setPeriod_envDivider (p : Period) : (setPeriod p s).envDivider = s.envDivider := rfl
@[simp] theorem setPeriod_envVolume (p : Period) : (setPeriod p s).envVolume = s.envVolume := rfl
@[simp] theorem setPeriod_envReloadFlag (p : Period) : (setPeriod p s).envReloadFlag = s.envReloadFlag := rfl
@[simp] theorem setPeriod_dutyCycle (p : Period) : (setPeriod p s).dutyCycle = s.dutyCycle := rfl
@[simp] theorem setPeriod_sweepEnabled (p : Period) : (setPeriod p s).sweepEnabled = s.sweepEnabled := rfl
@[simp] theorem setPeriod_sweepNegate (p : Period) : (setPeriod p s).sweepNegate = s.sweepNegate := rfl
@[simp] theorem setPeriod_sweepShift (p : Period) : (setPeriod p s).sweepShift = s.sweepShift := rfl
@[simp] theorem setPeriod_sweepDividerPeriod (p : Period) : (setPeriod p s).sweepDividerPeriod = s.sweepDividerPeriod := rfl
@[simp] theorem setPeriod_sweepDividerCounter (p : Period) : (setPeriod p s).sweepDividerCounter = s.sweepDividerCounter := rfl
@[simp] theorem setPeriod_sweepReloadFlag (p : Period) : (setPeriod p s).sweepReloadFlag = s.sweepReloadFlag := rfl
@[simp] theorem setPeriod_linearCounter (p : Period) : (setPeriod p s).linearCounter = s.linearCounter := rfl
@[simp] theorem setPeriod_linearCounterReloadValue (p : Period) : (setPeriod p s).linearCounterReloadValue = s.linearCounterReloadValue := rfl
@[simp] theorem setPeriod_linearCounterReloadFlag (p : Period) : (setPeriod p s).linearCounterReloadFlag = s.linearCounterReloadFlag := rfl
@[simp] theorem setPeriod_shiftRegister (p : Period) : (setPeriod p s).shiftRegister = s.shiftRegister := rfl
@[simp] theorem setPeriod_shiftMode (p : Period) : (setPeriod p s).shiftMode = s.shiftMode := rfl
@[simp] theorem setPeriod_frameParity (p : Period) : (setPeriod p s).frameParity = s.frameParity := rfl
@[simp] theorem setPeriod_pulseStep (p : Period) : (setPeriod p s).pulseStep = s.pulseStep := rfl
@[simp] theorem setPeriod_triStep (p : Period) : (setPeriod p s).triStep = s.triStep := rfl
@[simp] theorem setPeriod_dacOut (p : Period) : (setPeriod p s).dacOut = s.dacOut := rfl
@[simp] theorem setPeriod_clkRunning (p : Period) : (setPeriod p s).clkRunning = runCondition s.identity p s.clkRunning := rfl
@[simp] theorem setPeriod_clkRate (p : Period) : (setPeriod p s).clkRate = p := rfl
@[simp] theorem setPeriod_qAddr (p : Period) : (setPeriod p s).qAddr = s.qAddr := rfl
@[simp] theorem setPeriod_qData (p : Period) : (setPeriod p s).qData = s.qData := rfl
@[simp] theorem setPeriod_wr (p : Period) : (setPeriod p s).wr = s.wr := rfl
@[simp] theorem setPeriod_rd (p : Period) : (setPeriod p s).rd = s.rd := rfl
@[simp] theorem setPeriod_count (p : Period) : (setPeriod p s).count = s.count := rfl
@[simp] theorem setPeriod_unknownCount (p : Period) : (setPeriod p s).unknownCount = s.unknownCount := rfl
@[simp] theorem setPeriod_overflowCount (p : Period) : (setPeriod p s).overflowCount = s.overflowCount := rfl
@[simp] theorem setPeriod_notes (p : Period) : (setPeriod p s).notes = s.notes := rfl
@[simp] theorem setPeriod_fifoLog2 (p : Period) : (setPeriod p s).fifoLog2 = s.fifoLog2 := rfl
@[simp] theorem setPeriod_lengthTable (p : Period) : (setPeriod p s).lengthTable = s.lengthTable := rfl
@[simp] theorem setPeriod_booted (p : Period) : (setPeriod p s).booted = s.booted := rfl
@[simp] theorem setPeriod_script (p : Period) : (setPeriod p s).script = s.script := rfl

@[simp] theorem loadLength_identity (l : BitVec 5) : (loadLength l s).identity = s.identity := rfl
@[simp] theorem loadLength_enabled (l : BitVec 5) : (loadLength l s).enabled = s.enabled := rfl
@[simp] theorem loadLength_period (l : BitVec 5) : (loadLength l s).period = s.period := rfl
@[simp] theorem loadLength_lengthCounter (l : BitVec 5) : (loadLength l s).lengthCounter = s.lengthEntry l := rfl
@[simp] theorem loadLength_lengthCounterHalt (l : BitVec 5) : (loadLength l s).lengthCounterHalt = s.lengthCounterHalt := rfl
@[simp] theorem loadLength_volume (l : BitVec 5) : (loadLength l s).volume = s.volume := rfl
@[simp] theorem loadLength_envConstFlag (l : BitVec 5) : (loadLength l s).envConstFlag = s.envConstFlag := rfl
@[simp] theorem loadLength_envReloadValue (l : BitVec 5) : (loadLength l s).envReloadValue = s.envReloadValue := rfl
@[simp] theorem loadLength_envDivider (l : BitVec 5) : (loadLength l s).envDivider = s.envDivider := rfl
@[simp] theorem loadLength_envVolume (l : BitVec 5) : (loadLength l s).envVolume = s.envVolume := rfl
@[simp] theorem loadLength_envReloadFlag (l : BitVec 5) : (loadLength l s).envReloadFlag = s.envReloadFlag := rfl
@[simp] theorem loadLength_dutyCycle (l : BitVec 5) : (loadLength l s).dutyCycle = s.dutyCycle := rfl
@[simp] theorem loadLength_sweepEnabled (l : BitVec 5) : (loadLength l s).sweepEnabled = s.sweepEnabled := rfl
@[simp] theorem loadLength_sweepNegate (l : BitVec 5) : (loadLength l s).sweepNegate = s.sweepNegate := rfl
@[simp] theorem loadLength_sweepShift (l : BitVec 5) : (loadLength l s).sweepShift = s.sweepShift := rfl
@[simp] theorem loadLength_sweepDividerPeriod (l : BitVec 5) : (loadLength l s).sweepDividerPeriod = s.sweepDividerPeriod := rfl
@[simp] theorem loadLength_sweepDividerCounter (l : BitVec 5) : (loadLength l s).sweepDividerCounter = s.sweepDividerCounter := rfl
@[simp] theorem loadLength_sweepReloadFlag (l : BitVec 5) : (loadLength l s).sweepReloadFlag = s.sweepReloadFlag := rfl
@[simp] theorem loadLength_linearCounter (l : BitVec 5) : (loadLength l s).linearCounter = s.linearCounter := rfl
@[simp] theorem loadLength_linearCounterReloadValue (l : BitVec 5) : (loadLength l s).linearCounterReloadValue = s.linearCounterReloadValue := rfl
@[simp] theorem loadLength_linearCounterReloadFlag (l : BitVec 5) : (loadLength l s).linearCounterReloadFlag = s.linearCounterReloadFlag := rfl
@[simp] theorem loadLength_shiftRegister (l : BitVec 5) : (loadLength l s).shiftRegister = s.shiftRegister := rfl
@[simp] theorem loadLength_shiftMode (l : BitVec 5) : (loadLength l s).shiftMode = s.shiftMode := rfl
@[simp] theorem loadLength_frameParity (l : BitVec 5) : (loadLength l s).frameParity = s.frameParity := rfl
@[simp] theorem loadLength_pulseStep (l : BitVec 5) : (loadLength l s).pulseStep = s.pulseStep := rfl
@[simp] theorem loadLength_triStep (l : BitVec 5) : (loadLength l s).triStep = s.triStep := rfl
@[simp] theorem loadLength_dacOut (l : BitVec 5) : (loadLength l s).dacOut = s.dacOut := rfl
@[simp] theorem loadLength_clkRunning (l : BitVec 5) : (loadLength l s).clkRunning = s.clkRunning := rfl
@[simp] theorem loadLength_clkRate (l : BitVec 5) : (loadLength l s).clkRate = s.clkRate := rfl
@[simp] theorem loadLength_qAddr (l : BitVec 5) : (loadLength l s).qAddr = s.qAddr := rfl
@[simp] theorem loadLength_qData (l : BitVec 5) : (loadLength l s).qData = s.qData := rfl
@[simp] theorem loadLength_wr (l : BitVec 5) : (loadLength l s).wr = s.wr := rfl
@[simp] theorem loadLength_rd (l : BitVec 5) : (loadLength l s).rd = s.rd := rfl
@[simp] theorem loadLength_count (l : BitVec 5) : (loadLength l s).count = s.count := rfl
@[simp] theorem loadLength_unknownCount (l : BitVec 5) : (loadLength l s).unknownCount = s.unknownCount := rfl
@[simp] theorem loadLength_overflowCount (l : BitVec 5) : (loadLength l s).overflowCount = s.overflowCount := rfl
@[simp] theorem loadLength_notes (l : BitVec 5) : (loadLength l s).notes = s.notes := rfl
@[simp] theorem loadLength_fifoLog2 (l : BitVec 5) : (loadLength l s).fifoLog2 = s.fifoLog2 := rfl
@[simp] theorem loadLength_lengthTable (l : BitVec 5) : (loadLength l s).lengthTable = s.lengthTable := rfl
@[simp] theorem loadLength_booted (l : BitVec 5) : (loadLength l s).booted = s.booted := rfl
@[simp] theorem loadLength_script (l : BitVec 5) : (loadLength l s).script = s.script := rfl

@[simp] theorem dacWrite_identity (x : BitVec 4) : (dacWrite x s).identity = s.identity := rfl
@[simp] theorem dacWrite_enabled (x : BitVec 4) : (dacWrite x s).enabled = s.enabled := rfl
@[simp] theorem dacWrite_period (x : BitVec 4) : (dacWrite x s).period = s.period := rfl
@[simp] theorem dacWrite_lengthCounter (x : BitVec 4) : (dacWrite x s).lengthCounter = s.lengthCounter := rfl
@[simp] theorem dacWrite_lengthCounterHalt (x : BitVec 4) : (dacWrite x s).lengthCounterHalt = s.lengthCounterHalt := rfl
@[simp] theorem dacWrite_volume (x : BitVec 4) : (dacWrite x s).volume = s.volume := rfl
@[simp] theorem dacWrite_envConstFlag (x : BitVec 4) : (dacWrite x s).envConstFlag = s.envConstFlag := rfl
@[simp] theorem dacWrite_envReloadValue (x : BitVec 4) : (dacWrite x s).envReloadValue = s.envReloadValue := rfl
@[simp] theorem dacWrite_envDivider (x : BitVec 4) : (dacWrite x s).envDivider = s.envDivider := rfl
@[simp] theorem dacWrite_envVolume (x : BitVec 4) : (dacWrite x s).envVolume = s.envVolume := rfl
@[simp] theorem dacWrite_envReloadFlag (x : BitVec 4) : (dacWrite x s).envReloadFlag = s.envReloadFlag := rfl
@[simp] theorem dacWrite_dutyCycle (x : BitVec 4) : (dacWrite x s).dutyCycle = s.dutyCycle := rfl
@[simp] theorem dacWrite_sweepEnabled (x : BitVec 4) : (dacWrite x s).sweepEnabled = s.sweepEnabled := rfl
@[simp] theorem dacWrite_sweepNegate (x : BitVec 4) : (dacWrite x s).sweepNegate = s.sweepNegate := rfl
@[simp] theorem dacWrite_sweepShift (x : BitVec 4) : (dacWrite x s).sweepShift = s.sweepShift := rfl
@[simp] theorem dacWrite_sweepDividerPeriod (x : BitVec 4) : (dacWrite x s).sweepDividerPeriod = s.sweepDividerPeriod := rfl
@[simp] theorem dacWrite_sweepDividerCounter (x : BitVec 4) : (dacWrite x s).sweepDividerCounter = s.sweepDividerCounter := rfl
@[simp] theorem dacWrite_sweepReloadFlag (x : BitVec 4) : (dacWrite x s).sweepReloadFlag = s.sweepReloadFlag := rfl
@[simp] theorem dacWrite_linearCounter (x : BitVec 4) : (dacWrite x s).linearCounter = s.linearCounter := rfl
@[simp] theorem dacWrite_linearCounterReloadValue (x : BitVec 4) : (dacWrite x s).linearCounterReloadValue = s.linearCounterReloadValue := rfl
@[simp] theorem dacWrite_linearCounterReloadFlag (x : BitVec 4) : (dacWrite x s).linearCounterReloadFlag = s.linearCounterReloadFlag := rfl
@[simp] theorem dacWrite_shiftRegister (x : BitVec 4) : (dacWrite x s).shiftRegister = s.shiftRegister := rfl
@[simp] theorem dacWrite_shiftMode (x : BitVec 4) : (dacWrite x s).shiftMode = s.shiftMode := rfl
@[simp] theorem dacWrite_frameParity (x : BitVec 4) : (dacWrite x s).frameParity = s.frameParity := rfl
@[simp] theorem dacWrite_pulseStep (x : BitVec 4) : (dacWrite x s).pulseStep = s.pulseStep := rfl
@[simp] theorem dacWrite_triStep (x : BitVec 4) : (dacWrite x s).triStep = s.triStep := rfl
@[simp] theorem dacWrite_dacOut (x : BitVec 4) : (dacWrite x s).dacOut = x := rfl
@[simp] theorem dacWrite_clkRunning (x : BitVec 4) : (dacWrite x s).clkRunning = s.clkRunning := rfl
@[simp] theorem dacWrite_clkRate (x : BitVec 4) : (dacWrite x s).clkRate = s.clkRate := rfl
@[simp] theorem dacWrite_qAddr (x : BitVec 4) : (dacWrite x s).qAddr = s.qAddr := rfl
@[simp] theorem dacWrite_qData (x : BitVec 4) : (dacWrite x s).qData = s.qData := rfl
@[simp] theorem dacWrite_wr (x : BitVec 4) : (dacWrite x s).wr = s.wr := rfl
@[simp] theorem dacWrite_rd (x : BitVec 4) : (dacWrite x s).rd = s.rd := rfl
@[simp] theorem dacWrite_count (x : BitVec 4) : (dacWrite x s).count = s.count := rfl
@[simp] theorem dacWrite_unknownCount (x : BitVec 4) : (dacWrite x s).unknownCount = s.unknownCount := rfl
@[simp] theorem dacWrite_overflowCount (x : BitVec 4) : (dacWrite x s).overflowCount = s.overflowCount := rfl
@[simp] theorem dacWrite_notes (x : BitVec 4) : (dacWrite x s).notes = s.notes := rfl
@[simp] theorem dacWrite_fifoLog2 (x : BitVec 4) : (dacWrite x s).fifoLog2 = s.fifoLog2 := rfl
@[simp] theorem dacWrite_lengthTable (x : BitVec 4) : (dacWrite x s).lengthTable = s.lengthTable := rfl
@[simp] theorem dacWrite_booted (x : BitVec 4) : (dacWrite x s).booted = s.booted := rfl
@[simp] theorem dacWrite_script (x : BitVec 4) : (dacWrite x s).script = s.script := rfl

@[simp] theorem advance_identity : (s.advance).identity = s.identity := rfl
@[simp] theorem advance_enabled : (s.advance).enabled = s.enabled := rfl
@[simp] theorem advance_period : (s.advance).period = s.period := rfl
@[simp] theorem advance_lengthCounter : (s.advance).lengthCounter = s.lengthCounter := rfl
@[simp] theorem advance_lengthCounterHalt : (s.advance).lengthCounterHalt = s.lengthCounterHalt := rfl
@[simp] theorem advance_volume : (s.advance).volume = s.volume := rfl
@[simp] theorem advance_envConstFlag : (s.advance).envConstFlag = s.envConstFlag := rfl
@[simp] theorem advance_envReloadValue : (s.advance).envReloadValue = s.envReloadValue := rfl
@[simp] theorem advance_envDivider : (s.advance).envDivider = s.envDivider := rfl
@[simp] theorem advance_envVolume : (s.advance).envVolume = s.envVolume := rfl
@[simp] theorem advance_envReloadFlag : (s.advance).envReloadFlag = s.envReloadFlag := rfl
@[simp] theorem advance_dutyCycle : (s.advance).dutyCycle = s.dutyCycle := rfl
@[simp] theorem advance_sweepEnabled : (s.advance).sweepEnabled = s.sweepEnabled := rfl
@[simp] theorem advance_sweepNegate : (s.advance).sweepNegate = s.sweepNegate := rfl
@[simp] theorem advance_sweepShift : (s.advance).sweepShift = s.sweepShift := rfl
@[simp] theorem advance_sweepDividerPeriod : (s.advance).sweepDividerPeriod = s.sweepDividerPeriod := rfl
@[simp] theorem advance_sweepDividerCounter : (s.advance).sweepDividerCounter = s.sweepDividerCounter := rfl
@[simp] theorem advance_sweepReloadFlag : (s.advance).sweepReloadFlag = s.sweepReloadFlag := rfl
@[simp] theorem advance_linearCounter : (s.advance).linearCounter = s.linearCounter := rfl
@[simp] theorem advance_linearCounterReloadValue : (s.advance).linearCounterReloadValue = s.linearCounterReloadValue := rfl
@[simp] theorem advance_linearCounterReloadFlag : (s.advance).linearCounterReloadFlag = s.linearCounterReloadFlag := rfl
@[simp] theorem advance_shiftRegister : (s.advance).shiftRegister = s.shiftRegister := rfl
@[simp] theorem advance_shiftMode : (s.advance).shiftMode = s.shiftMode := rfl
@[simp] theorem advance_frameParity : (s.advance).frameParity = s.frameParity := rfl
@[simp] theorem advance_pulseStep : (s.advance).pulseStep = s.pulseStep := rfl
@[simp] theorem advance_triStep : (s.advance).triStep = s.triStep := rfl
@[simp] theorem advance_dacOut : (s.advance).dacOut = s.dacOut := rfl
@[simp] theorem advance_clkRunning : (s.advance).clkRunning = s.clkRunning := rfl
@[simp] theorem advance_clkRate : (s.advance).clkRate = s.clkRate := rfl
@[simp] theorem advance_qAddr : (s.advance).qAddr = s.qAddr := rfl
@[simp] theorem advance_qData : (s.advance).qData = s.qData := rfl
@[simp] theorem advance_wr : (s.advance).wr = s.wr := rfl
@[simp] theorem advance_rd : (s.advance).rd = s.rd := rfl
@[simp] theorem advance_count : (s.advance).count = s.count := rfl
@[simp] theorem advance_unknownCount : (s.advance).unknownCount = s.unknownCount := rfl
@[simp] theorem advance_overflowCount : (s.advance).overflowCount = s.overflowCount := rfl
@[simp] theorem advance_notes : (s.advance).notes = s.notes := rfl
@[simp] theorem advance_fifoLog2 : (s.advance).fifoLog2 = s.fifoLog2 := rfl
@[simp] theorem advance_lengthTable : (s.advance).lengthTable = s.lengthTable := rfl
@[simp] theorem advance_booted : (s.advance).booted = s.booted := rfl
@[simp] theorem advance_script : (s.advance).script = s.script.tail := rfl

end Sys2Proof.Machine
end

