-- ==== Sys2Proof/Laws/Ops.lean ====
section
/-! SUPPORT. What the shared operations can do, said once each: the reprogram of the sample clock, the
period parts, the FIFO ring against the sequence it stands for, and the dispatch of a command. -/

namespace Sys2Proof.Machine

open Sys2Proof.Safety

/-- The run condition is R154's table. -/
theorem runCondition_eq (id : Identity) (r : Period) (b : Bool) :
    runCondition id r b =
      match id with
      | .pulse1 => decide (8 ≤ r.toNat)
      | .pulse2 => decide (8 ≤ r.toNat)
      | .triangle => decide (4 ≤ r.toNat)
      | .noise => b := by cases id <;> rfl

/-- Writing `period` through `setPeriod` establishes R154's equation whatever held before. -/
theorem clockWf_setPeriod (p : Period) (s : State) : ClockWf (setPeriod p s) := by
  refine ⟨rfl, fun h => ?_, fun h => ?_⟩
  · rcases h with h | h <;> rw [setPeriod_identity] at h <;> rw [setPeriod_clkRunning, h] <;> rfl
  · rw [setPeriod_identity] at h
    rw [setPeriod_clkRunning, h]
    rfl

/-- The period after Reg2, in numbers: the low byte replaced, the high bits kept (R43). -/
theorem periodWithLow_toNat (old : Period) (t : Byte) :
    (periodWithLow old t).toNat = 256 * (old.toNat / 256) + t.toNat := by
  have hmask : ∀ p : Period, (p &&& (0x700 : Period)).toNat = 2 ^ 8 * (p.toNat / 2 ^ 8) := by decide +kernel
  have hwide : (t.setWidth 11).toNat = t.toNat :=
    (BitVec.toNat_setWidth 11 t).trans (Nat.mod_eq_of_lt (t.isLt.trans (by decide)))
  unfold periodWithLow
  rw [BitVec.toNat_or, hmask, hwide, ← Nat.two_pow_add_eq_or_of_lt t.isLt]
  rfl

/-- The period after Reg3, in numbers: the high bits replaced, the low byte kept (R43). -/
theorem periodWithHigh_toNat (old : Period) (t : BitVec 3) :
    (periodWithHigh old t).toNat = old.toNat % 256 + 256 * t.toNat := by
  have hmask : ∀ p : Period, (p &&& (0x0FF : Period)).toNat = p.toNat % 2 ^ 8 := by decide +kernel
  have hwide : ∀ u : BitVec 3, (u.setWidth 11 <<< 8).toNat = 2 ^ 8 * u.toNat := by decide
  unfold periodWithHigh
  rw [BitVec.toNat_or, hmask, hwide, Nat.or_comm, ← Nat.two_pow_add_eq_or_of_lt (Nat.mod_lt _ (by decide)),
    Nat.add_comm]

variable (s : State)

/-- What a length load reads from a table under its constraints lies in 1..254 (R46). -/
theorem lengthEntry_range (h : TableWf s) (l : BitVec 5) :
    1 ≤ (s.lengthEntry l).toNat ∧ (s.lengthEntry l).toNat ≤ 254 := h.range l.toFin

/-- A length load is the table's entry at the index (R46). -/
theorem lengthEntry_eq (l : BitVec 5) : s.lengthEntry l = s.lengthTable[l.toNat]'l.isLt := rfl

/-- No queue operation moves the capacity or the wrap. -/
@[simp] theorem note_wrap (n : Note) (i : Nat) : (note n s).wrap i = s.wrap i := rfl
@[simp] theorem dropHead_wrap (i : Nat) : (dropHead s).wrap i = s.wrap i := rfl
@[simp] theorem appendPair_wrap (a v : Byte) (i : Nat) : (appendPair a v s).wrap i = s.wrap i := rfl
@[simp] theorem note_fifoCapacity (n : Note) : (note n s).fifoCapacity = s.fifoCapacity := rfl
@[simp] theorem dropHead_fifoCapacity : (dropHead s).fifoCapacity = s.fifoCapacity := rfl
@[simp] theorem appendPair_fifoCapacity (a v : Byte) : (appendPair a v s).fifoCapacity = s.fifoCapacity := rfl

/-- Reading the storage does not see the script, the notes or the read index. -/
@[simp] theorem advance_memRead (q : QArray) (i : Nat) : s.advance.memRead q i = s.memRead q i := by
  cases q <;> rfl
@[simp] theorem note_memRead (n : Note) (q : QArray) (i : Nat) : (note n s).memRead q i = s.memRead q i := by
  cases q <;> rfl
@[simp] theorem dropHead_memRead (q : QArray) (i : Nat) : (dropHead s).memRead q i = s.memRead q i := by
  cases q <;> rfl
@[simp] theorem advance_wrap (i : Nat) : s.advance.wrap i = s.wrap i := rfl
@[simp] theorem advance_fifoCapacity : s.advance.fifoCapacity = s.fifoCapacity := rfl

/-- `FIFO_CAPACITY` is at least 1 (R5). -/
theorem fifoCapacity_pos : 0 < s.fifoCapacity := Nat.two_pow_pos _

/-- A wrapped index lies in the array. -/
theorem wrap_lt (i : Nat) : s.wrap i < s.fifoCapacity := Nat.mod_lt _ (fifoCapacity_pos s)

/-- Wrapping twice is wrapping once. -/
theorem wrap_wrap_add (i n : Nat) : s.wrap (s.wrap i + n) = s.wrap (i + n) := Nat.mod_add_mod _ _ _

/-- Two offsets below the capacity that land on one index are the same offset. -/
theorem wrap_inj {i m n : Nat} (hm : m < s.fifoCapacity) (hn : n < s.fifoCapacity)
    (h : s.wrap (i + m) = s.wrap (i + n)) : m = n := by
  have := Nat.ModEq.add_left_cancel' i (show i + m ≡ i + n [MOD s.fifoCapacity] from h)
  exact Nat.ModEq.eq_of_lt_of_lt this hm hn

/-- Entry `n + 1` before the oldest pair is taken off is entry `n` after. -/
theorem entry_dropHead (n : Nat) : (dropHead s).entry n = s.entry (n + 1) := by
  have h : (dropHead s).wrap ((dropHead s).rd + n) = s.wrap (s.rd + (n + 1)) := by
    show s.wrap (s.wrap (s.rd + 1) + n) = _
    rw [wrap_wrap_add, Nat.add_assoc, Nat.add_comm 1 n]
  unfold State.entry
  rw [h]
  rfl

/-- Taking the oldest pair off the ring is taking the tail of the sequence (R143). -/
theorem queue_dropHead : (dropHead s).queue = s.queue.tail := by
  unfold State.queue
  cases hc : s.count with
  | zero => simp [hc]
  | succ k =>
    rw [List.range_succ_eq_map]
    simp [hc, Function.comp_def, entry_dropHead]

/-- The oldest pair is the head of the sequence (R143). -/
theorem queue_head (hrd : s.rd < s.fifoCapacity) (hc : s.count ≠ 0) :
    s.queue = s.head :: (dropHead s).queue := by
  obtain ⟨k, hk⟩ := Nat.exists_eq_succ_of_ne_zero hc
  rw [queue_dropHead]
  unfold State.queue
  rw [hk, Nat.succ_eq_add_one, List.range_succ_eq_map]
  simp [State.entry, State.head, State.wrap, Nat.mod_eq_of_lt hrd]

/-- The bytes `appendPair` leaves in the storage: the new pair at the write index, every other byte as
before (R141). -/
theorem memRead_appendPair (a v : Byte) (q : QArray) (i : Nat) :
    (appendPair a v s).memRead q i =
      if i = s.wr then (match q with | .addr => a | .data => v) else s.memRead q i := by
  by_cases h : i = s.wr
  · subst h; cases q <;> simp [State.memRead, State.array]
  · cases q <;> simp [State.memRead, State.array, h, Memory.read_write_other]

/-- An append to a ring with room adds the pair as the newest of the sequence (R141). -/
theorem queue_appendPair (a v : Byte) (hc : s.count < s.fifoCapacity)
    (hwr : s.wr = s.wrap (s.rd + s.count)) : (appendPair a v s).queue = s.queue ++ [(a, v)] := by
  have hold : ∀ n ∈ List.range s.count, (appendPair a v s).entry n = s.entry n := by
    intro n hn
    have hlt : n < s.count := List.mem_range.1 hn
    have hne : s.wrap (s.rd + n) ≠ s.wr := fun h =>
      absurd (wrap_inj s (hlt.trans hc) hc (h.trans hwr)) hlt.ne
    simp [State.entry, memRead_appendPair, hne]
  have hnew : (appendPair a v s).entry s.count = (a, v) := by
    simp [State.entry, memRead_appendPair, ← hwr]
  unfold State.queue
  rw [appendPair_count, List.range_succ, List.map_append, List.map_congr_left hold]
  simp [hnew]

/-- The length of the sequence is the occupancy count. -/
@[simp] theorem queue_length : s.queue.length = s.count := by simp [State.queue]

/-- A note leaves the sequence alone. -/
@[simp] theorem queue_note (n : Note) : (note n s).queue = s.queue := rfl

/-- Making room: nothing on a FIFO that is not full, else the oldest pair goes, with its note (R142). -/
theorem makeRoom_cases :
    (s.count ≠ s.fifoCapacity ∧ makeRoom s = s) ∨
    (s.count = s.fifoCapacity ∧ makeRoom s = dropHead (note (.fifoOverflow s.head.1 s.head.2) s)) := by
  unfold makeRoom
  by_cases h : s.count = s.fifoCapacity <;> simp [h]

/-- Taking the oldest pair keeps the ring in order. -/
theorem fifoWf_dropHead (h : FifoWf s) (hc : s.count ≠ 0) : FifoWf (dropHead s) := by
  refine ⟨h.addrWf, h.dataWf, wrap_lt s _, ?_, ?_⟩
  · exact (Nat.sub_le _ _).trans h.countBound
  · show s.wr = s.wrap (s.wrap (s.rd + 1) + (s.count - 1))
    rw [wrap_wrap_add, h.wrAfter]
    congr 1
    omega

/-- An append to a ring with room keeps the ring in order. -/
theorem fifoWf_appendPair (a v : Byte) (h : FifoWf s) (hc : s.count < s.fifoCapacity) :
    FifoWf (appendPair a v s) := by
  refine ⟨Memory.wf_write _ _ h.addrWf, Memory.wf_write _ _ h.dataWf, h.rdBound, hc, ?_⟩
  show s.wrap (s.wr + 1) = s.wrap (s.rd + (s.count + 1))
  rw [h.wrAfter, wrap_wrap_add, Nat.add_assoc]

/-- After making room there is room. -/
theorem count_makeRoom (h : FifoWf s) : (makeRoom s).count < (makeRoom s).fifoCapacity := by
  have hpos := fifoCapacity_pos s
  have hle := h.countBound
  obtain ⟨hne, he⟩ | ⟨heq, he⟩ := makeRoom_cases s <;> rw [he]
  · omega
  · show s.count - 1 < s.fifoCapacity
    omega

/-- Making room keeps the ring in order. -/
theorem fifoWf_makeRoom (h : FifoWf s) : FifoWf (makeRoom s) := by
  obtain ⟨-, he⟩ | ⟨heq, he⟩ := makeRoom_cases s <;> rw [he]
  · exact h
  · refine fifoWf_dropHead _ ⟨h.addrWf, h.dataWf, h.rdBound, h.countBound, h.wrAfter⟩ ?_
    have hpos := fifoCapacity_pos s
    show s.count ≠ 0
    omega

/-- A command's row runs under `POP` exactly as it does alone: the table of R80 and `exec` agree on every
row that is a command. -/
theorem runCommand_eq_exec {i : Instr} {id : Identity} (h : i.identity = some id) :
    runCommand i s = exec i s := by
  cases i <;> first | rfl | simp [Instr.identity] at h

end Sys2Proof.Machine
end

