-- ==== Sys2Proof/Laws/Frame.lean ====
section
/-! SUPPORT. What one `FRAME` and one `SAMPLE` can do. Each step of the Frame Sequencer is one record
update, so that the fields it leaves alone are read off it; the sweep unit's target is an integer sum. -/

namespace Sys2Proof.Machine

variable (s : State)

/-- Step 5 writes `length_counter` alone (R112). -/
theorem stepLength_eq :
    stepLength s = { s with
      lengthCounter := if s.lengthCounter ≠ 0 ∧ s.lengthCounterHalt = false then s.lengthCounter - 1
        else s.lengthCounter } := by
  unfold stepLength; split <;> rfl

/-- Step 5, in numbers: truncated subtraction saturates at 0 as the counter does (R112). -/
theorem stepLength_toNat :
    (stepLength s).lengthCounter.toNat =
      if s.lengthCounterHalt = false then s.lengthCounter.toNat - 1 else s.lengthCounter.toNat := by
  have hdec : ∀ x : BitVec 8, x ≠ 0 → (x - 1).toNat = x.toNat - 1 := by decide
  rw [stepLength_eq]
  by_cases hh : s.lengthCounterHalt = false
  · by_cases h : s.lengthCounter = 0
    · simp [h]
    · rw [if_pos hh, ← hdec _ h]
      exact congrArg BitVec.toNat (if_pos ⟨h, hh⟩)
  · rw [if_neg hh]
    exact congrArg BitVec.toNat (if_neg fun h => hh h.2)

/-- Part 2 of step 6 writes the divider, and either the volume or the period with the clock (R114). -/
theorem stepSweepDivider_frame :
    stepSweepDivider s = { s with
      volume := (stepSweepDivider s).volume, period := (stepSweepDivider s).period,
      clkRate := (stepSweepDivider s).clkRate, clkRunning := (stepSweepDivider s).clkRunning,
      sweepDividerCounter := (stepSweepDivider s).sweepDividerCounter } := by
  unfold stepSweepDivider sweepEvaluate
  repeat' split
  all_goals rfl

/-- The shifted period, zero-extended, in numbers (R113). -/
theorem shiftedPeriod_toNat (p : Period) (sh : BitVec 3) :
    ((p >>> sh.toNat).setWidth 16).toNat = p.toNat / 2 ^ sh.toNat := by
  have hle : p.toNat / 2 ^ sh.toNat ≤ p.toNat := Nat.div_le_self _ _
  rw [BitVec.toNat_setWidth, BitVec.toNat_ushiftRight, Nat.shiftRight_eq_div_pow]
  exact Nat.mod_eq_of_lt (by have := p.isLt; omega)

/-- The sweep target of a pulse unit is the integer sum, modulo 2^16 (R113). -/
theorem sweepTargetOf_int (id : Identity) (p : Period) (sh : BitVec 3) (n : Bool)
    (hid : id = .pulse1 ∨ id = .pulse2) :
    ((sweepTargetOf id p sh n).toNat : Int) =
      (if n then
        (if id = .pulse1 then (p.toNat : Int) - (p.toNat / 2 ^ sh.toNat : Nat) - 1
          else (p.toNat : Int) - (p.toNat / 2 ^ sh.toNat : Nat))
        else (p.toNat : Int) + (p.toNat / 2 ^ sh.toNat : Nat)) % 65536 := by
  have hp := p.isLt
  have hle : p.toNat / 2 ^ sh.toNat ≤ p.toNat := Nat.div_le_self _ _
  have hd := shiftedPeriod_toNat p sh
  have hw : (p.setWidth 16).toNat = p.toNat := by
    rw [BitVec.toNat_setWidth]; exact Nat.mod_eq_of_lt (by omega)
  unfold sweepTargetOf sweepDelta
  generalize p.toNat / 2 ^ sh.toNat = d at *
  generalize (p >>> sh.toNat).setWidth 16 = x at *
  generalize p.setWidth 16 = y at *
  rcases hid with rfl | rfl <;> cases n <;> simp <;> omega

/-- The four things part 2 of step 6 can do: count down, mute, commit, or nothing more than the reload
(R114). -/
theorem stepSweepDivider_cases :
    (s.sweepDividerCounter ≠ 0 ∧
      stepSweepDivider s = { s with sweepDividerCounter := s.sweepDividerCounter - 1 }) ∨
    (s.sweepDividerCounter = 0 ∧ sweepOutOfRange s.sweepTarget s.period = true ∧
      stepSweepDivider s = { s with sweepDividerCounter := s.sweepDividerPeriod, volume := 0 }) ∨
    (s.sweepDividerCounter = 0 ∧ sweepOutOfRange s.sweepTarget s.period = false ∧ s.sweepEnabled = true ∧
      stepSweepDivider s =
        setPeriod (periodOfTarget s.sweepTarget) { s with sweepDividerCounter := s.sweepDividerPeriod }) ∨
    (s.sweepDividerCounter = 0 ∧ sweepOutOfRange s.sweepTarget s.period = false ∧ s.sweepEnabled = false ∧
      stepSweepDivider s = { s with sweepDividerCounter := s.sweepDividerPeriod }) := by
  have hT : ({ s with sweepDividerCounter := s.sweepDividerPeriod } : State).sweepTarget = s.sweepTarget := rfl
  unfold stepSweepDivider sweepEvaluate
  rw [hT]
  by_cases hc : s.sweepDividerCounter = 0
  · rw [if_neg (not_not.2 hc)]
    cases ho : sweepOutOfRange s.sweepTarget s.period
    · cases he : s.sweepEnabled <;> simp [hc]
    · exact .inr (.inl ⟨hc, rfl, if_pos rfl⟩)
  · exact .inl ⟨hc, if_pos hc⟩

/-- Part 3 of step 6 writes the divider and the reload flag (R115). -/
theorem stepSweepReload_eq :
    stepSweepReload s = { s with
      sweepDividerCounter := if s.sweepReloadFlag = true then s.sweepDividerPeriod else s.sweepDividerCounter
      sweepReloadFlag := false } := by
  cases h : s.sweepReloadFlag
  · unfold stepSweepReload
    rw [if_neg (by simp [h]), if_neg (by simp), ← h]
  · unfold stepSweepReload
    rw [if_pos h, if_pos rfl]

/-- Step 1 writes the envelope's three fields (R116). -/
theorem stepEnvelope_frame :
    stepEnvelope s = { s with
      envDivider := (stepEnvelope s).envDivider, envVolume := (stepEnvelope s).envVolume,
      envReloadFlag := (stepEnvelope s).envReloadFlag } := by
  have h : envelopeTick s = { s with
      envDivider := (envelopeTick s).envDivider, envVolume := (envelopeTick s).envVolume,
      envReloadFlag := (envelopeTick s).envReloadFlag } := by
    unfold envelopeTick
    repeat' split
    all_goals rfl
  unfold stepEnvelope
  split <;> first | exact h | rfl

/-- Step 2 writes the linear counter's two fields (R117). -/
theorem stepLinear_frame :
    stepLinear s = { s with
      linearCounter := (stepLinear s).linearCounter,
      linearCounterReloadFlag := (stepLinear s).linearCounterReloadFlag } := by
  unfold stepLinear
  split <;> rfl

/-- Step 3 writes `volume` alone (R118). -/
theorem stepVolume_frame : stepVolume s = { s with volume := (stepVolume s).volume } := by
  unfold stepVolume
  split
  · rfl
  · split <;> rfl

/-- Step 4 writes `clk_running` alone (R119). -/
theorem stepNoiseClock_frame : stepNoiseClock s = { s with clkRunning := (stepNoiseClock s).clkRunning } := by
  unfold stepNoiseClock
  split <;> try rfl
  split <;> rfl

/-! Fields that `toggleParity` leaves alone. -/

@[simp] theorem toggleParity_identity : (toggleParity s).identity = s.identity := rfl
@[simp] theorem toggleParity_enabled : (toggleParity s).enabled = s.enabled := rfl
@[simp] theorem toggleParity_period : (toggleParity s).period = s.period := rfl
@[simp] theorem toggleParity_lengthCounter : (toggleParity s).lengthCounter = s.lengthCounter := rfl
@[simp] theorem toggleParity_lengthCounterHalt : (toggleParity s).lengthCounterHalt = s.lengthCounterHalt := rfl
@[simp] theorem toggleParity_volume : (toggleParity s).volume = s.volume := rfl
@[simp] theorem toggleParity_envConstFlag : (toggleParity s).envConstFlag = s.envConstFlag := rfl
@[simp] theorem toggleParity_envReloadValue : (toggleParity s).envReloadValue = s.envReloadValue := rfl
@[simp] theorem toggleParity_envDivider : (toggleParity s).envDivider = s.envDivider := rfl
@[simp] theorem toggleParity_envVolume : (toggleParity s).envVolume = s.envVolume := rfl
@[simp] theorem toggleParity_envReloadFlag : (toggleParity s).envReloadFlag = s.envReloadFlag := rfl
@[simp] theorem toggleParity_dutyCycle : (toggleParity s).dutyCycle = s.dutyCycle := rfl
@[simp] theorem toggleParity_sweepEnabled : (toggleParity s).sweepEnabled = s.sweepEnabled := rfl
@[simp] theorem toggleParity_sweepNegate : (toggleParity s).sweepNegate = s.sweepNegate := rfl
@[simp] theorem toggleParity_sweepShift : (toggleParity s).sweepShift = s.sweepShift := rfl
@[simp] theorem toggleParity_sweepDividerPeriod : (toggleParity s).sweepDividerPeriod = s.sweepDividerPeriod := rfl
@[simp] theorem toggleParity_sweepDividerCounter : (toggleParity s).sweepDividerCounter = s.sweepDividerCounter := rfl
@[simp] theorem toggleParity_sweepReloadFlag : (toggleParity s).sweepReloadFlag = s.sweepReloadFlag := rfl
@[simp] theorem toggleParity_linearCounter : (toggleParity s).linearCounter = s.linearCounter := rfl
@[simp] theorem toggleParity_linearCounterReloadValue : (toggleParity s).linearCounterReloadValue = s.linearCounterReloadValue := rfl
@[simp] theorem toggleParity_linearCounterReloadFlag : (toggleParity s).linearCounterReloadFlag = s.linearCounterReloadFlag := rfl
@[simp] theorem toggleParity_shiftRegister : (toggleParity s).shiftRegister = s.shiftRegister := rfl
@[simp] theorem toggleParity_shiftMode : (toggleParity s).shiftMode = s.shiftMode := rfl
@[simp] theorem toggleParity_pulseStep : (toggleParity s).pulseStep = s.pulseStep := rfl
@[simp] theorem toggleParity_triStep : (toggleParity s).triStep = s.triStep := rfl
@[simp] theorem toggleParity_dacOut : (toggleParity s).dacOut = s.dacOut := rfl
@[simp] theorem toggleParity_clkRunning : (toggleParity s).clkRunning = s.clkRunning := rfl
@[simp] theorem toggleParity_clkRate : (toggleParity s).clkRate = s.clkRate := rfl
@[simp] theorem toggleParity_qAddr : (toggleParity s).qAddr = s.qAddr := rfl
@[simp] theorem toggleParity_qData : (toggleParity s).qData = s.qData := rfl
@[simp] theorem toggleParity_wr : (toggleParity s).wr = s.wr := rfl
@[simp] theorem toggleParity_rd : (toggleParity s).rd = s.rd := rfl
@[simp] theorem toggleParity_count : (toggleParity s).count = s.count := rfl
@[simp] theorem toggleParity_unknownCount : (toggleParity s).unknownCount = s.unknownCount := rfl
@[simp] theorem toggleParity_overflowCount : (toggleParity s).overflowCount = s.overflowCount := rfl
@[simp] theorem toggleParity_notes : (toggleParity s).notes = s.notes := rfl
@[simp] theorem toggleParity_fifoLog2 : (toggleParity s).fifoLog2 = s.fifoLog2 := rfl
@[simp] theorem toggleParity_lengthTable : (toggleParity s).lengthTable = s.lengthTable := rfl
@[simp] theorem toggleParity_booted : (toggleParity s).booted = s.booted := rfl
@[simp] theorem toggleParity_script : (toggleParity s).script = s.script := rfl

/-! Fields that `stepLength` leaves alone. -/

@[simp] theorem stepLength_identity : (stepLength s).identity = s.identity := (congrArg State.identity (stepLength_eq s) :)
@[simp] theorem stepLength_enabled : (stepLength s).enabled = s.enabled := (congrArg State.enabled (stepLength_eq s) :)
@[simp] theorem stepLength_period : (stepLength s).period = s.period := (congrArg State.period (stepLength_eq s) :)
@[simp] theorem stepLength_lengthCounterHalt : (stepLength s).lengthCounterHalt = s.lengthCounterHalt := (congrArg State.lengthCounterHalt (stepLength_eq s) :)
@[simp] theorem stepLength_volume : (stepLength s).volume = s.volume := (congrArg State.volume (stepLength_eq s) :)
@[simp] theorem stepLength_envConstFlag : (stepLength s).envConstFlag = s.envConstFlag := (congrArg State.envConstFlag (stepLength_eq s) :)
@[simp] theorem stepLength_envReloadValue : (stepLength s).envReloadValue = s.envReloadValue := (congrArg State.envReloadValue (stepLength_eq s) :)
@[simp] theorem stepLength_envDivider : (stepLength s).envDivider = s.envDivider := (congrArg State.envDivider (stepLength_eq s) :)
@[simp] theorem stepLength_envVolume : (stepLength s).envVolume = s.envVolume := (congrArg State.envVolume (stepLength_eq s) :)
@[simp] theorem stepLength_envReloadFlag : (stepLength s).envReloadFlag = s.envReloadFlag := (congrArg State.envReloadFlag (stepLength_eq s) :)
@[simp] theorem stepLength_dutyCycle : (stepLength s).dutyCycle = s.dutyCycle := (congrArg State.dutyCycle (stepLength_eq s) :)
@[simp] theorem stepLength_sweepEnabled : (stepLength s).sweepEnabled = s.sweepEnabled := (congrArg State.sweepEnabled (stepLength_eq s) :)
@[simp] theorem stepLength_sweepNegate : (stepLength s).sweepNegate = s.sweepNegate := (congrArg State.sweepNegate (stepLength_eq s) :)
@[simp] theorem stepLength_sweepShift : (stepLength s).sweepShift = s.sweepShift := (congrArg State.sweepShift (stepLength_eq s) :)
@[simp] theorem stepLength_sweepDividerPeriod : (stepLength s).sweepDividerPeriod = s.sweepDividerPeriod := (congrArg State.sweepDividerPeriod (stepLength_eq s) :)
@[simp] theorem stepLength_sweepDividerCounter : (stepLength s).sweepDividerCounter = s.sweepDividerCounter := (congrArg State.sweepDividerCounter (stepLength_eq s) :)
@[simp] theorem stepLength_sweepReloadFlag : (stepLength s).sweepReloadFlag = s.sweepReloadFlag := (congrArg State.sweepReloadFlag (stepLength_eq s) :)
@[simp] theorem stepLength_linearCounter : (stepLength s).linearCounter = s.linearCounter := (congrArg State.linearCounter (stepLength_eq s) :)
@[simp] theorem stepLength_linearCounterReloadValue : (stepLength s).linearCounterReloadValue = s.linearCounterReloadValue := (congrArg State.linearCounterReloadValue (stepLength_eq s) :)
@[simp] theorem stepLength_linearCounterReloadFlag : (stepLength s).linearCounterReloadFlag = s.linearCounterReloadFlag := (congrArg State.linearCounterReloadFlag (stepLength_eq s) :)
@[simp] theorem stepLength_shiftRegister : (stepLength s).shiftRegister = s.shiftRegister := (congrArg State.shiftRegister (stepLength_eq s) :)
@[simp] theorem stepLength_shiftMode : (stepLength s).shiftMode = s.shiftMode := (congrArg State.shiftMode (stepLength_eq s) :)
@[simp] theorem stepLength_frameParity : (stepLength s).frameParity = s.frameParity := (congrArg State.frameParity (stepLength_eq s) :)
@[simp] theorem stepLength_pulseStep : (stepLength s).pulseStep = s.pulseStep := (congrArg State.pulseStep (stepLength_eq s) :)
@[simp] theorem stepLength_triStep : (stepLength s).triStep = s.triStep := (congrArg State.triStep (stepLength_eq s) :)
@[simp] theorem stepLength_dacOut : (stepLength s).dacOut = s.dacOut := (congrArg State.dacOut (stepLength_eq s) :)
@[simp] theorem stepLength_clkRunning : (stepLength s).clkRunning = s.clkRunning := (congrArg State.clkRunning (stepLength_eq s) :)
@[simp] theorem stepLength_clkRate : (stepLength s).clkRate = s.clkRate := (congrArg State.clkRate (stepLength_eq s) :)
@[simp] theorem stepLength_qAddr : (stepLength s).qAddr = s.qAddr := (congrArg State.qAddr (stepLength_eq s) :)
@[simp] theorem stepLength_qData : (stepLength s).qData = s.qData := (congrArg State.qData (stepLength_eq s) :)
@[simp] theorem stepLength_wr : (stepLength s).wr = s.wr := (congrArg State.wr (stepLength_eq s) :)
@[simp] theorem stepLength_rd : (stepLength s).rd = s.rd := (congrArg State.rd (stepLength_eq s) :)
@[simp] theorem stepLength_count : (stepLength s).count = s.count := (congrArg State.count (stepLength_eq s) :)
@[simp] theorem stepLength_unknownCount : (stepLength s).unknownCount = s.unknownCount := (congrArg State.unknownCount (stepLength_eq s) :)
@[simp] theorem stepLength_overflowCount : (stepLength s).overflowCount = s.overflowCount := (congrArg State.overflowCount (stepLength_eq s) :)
@[simp] theorem stepLength_notes : (stepLength s).notes = s.notes := (congrArg State.notes (stepLength_eq s) :)
@[simp] theorem stepLength_fifoLog2 : (stepLength s).fifoLog2 = s.fifoLog2 := (congrArg State.fifoLog2 (stepLength_eq s) :)
@[simp] theorem stepLength_lengthTable : (stepLength s).lengthTable = s.lengthTable := (congrArg State.lengthTable (stepLength_eq s) :)
@[simp] theorem stepLength_booted : (stepLength s).booted = s.booted := (congrArg State.booted (stepLength_eq s) :)
@[simp] theorem stepLength_script : (stepLength s).script = s.script := (congrArg State.script (stepLength_eq s) :)

/-! Fields that `stepSweepDivider` leaves alone. -/

@[simp] theorem stepSweepDivider_identity : (stepSweepDivider s).identity = s.identity := (congrArg State.identity (stepSweepDivider_frame s) :)
@[simp] theorem stepSweepDivider_enabled : (stepSweepDivider s).enabled = s.enabled := (congrArg State.enabled (stepSweepDivider_frame s) :)
@[simp] theorem stepSweepDivider_lengthCounter : (stepSweepDivider s).lengthCounter = s.lengthCounter := (congrArg State.lengthCounter (stepSweepDivider_frame s) :)
@[simp] theorem stepSweepDivider_lengthCounterHalt : (stepSweepDivider s).lengthCounterHalt = s.lengthCounterHalt := (congrArg State.lengthCounterHalt (stepSweepDivider_frame s) :)
@[simp] theorem stepSweepDivider_envConstFlag : (stepSweepDivider s).envConstFlag = s.envConstFlag := (congrArg State.envConstFlag (stepSweepDivider_frame s) :)
@[simp] theorem stepSweepDivider_envReloadValue : (stepSweepDivider s).envReloadValue = s.envReloadValue := (congrArg State.envReloadValue (stepSweepDivider_frame s) :)
@[simp] theorem stepSweepDivider_envDivider : (stepSweepDivider s).envDivider = s.envDivider := (congrArg State.envDivider (stepSweepDivider_frame s) :)
@[simp] theorem stepSweepDivider_envVolume : (stepSweepDivider s).envVolume = s.envVolume := (congrArg State.envVolume (stepSweepDivider_frame s) :)
@[simp] theorem stepSweepDivider_envReloadFlag : (stepSweepDivider s).envReloadFlag = s.envReloadFlag := (congrArg State.envReloadFlag (stepSweepDivider_frame s) :)
@[simp] theorem stepSweepDivider_dutyCycle : (stepSweepDivider s).dutyCycle = s.dutyCycle := (congrArg State.dutyCycle (stepSweepDivider_frame s) :)
@[simp] theorem stepSweepDivider_sweepEnabled : (stepSweepDivider s).sweepEnabled = s.sweepEnabled := (congrArg State.sweepEnabled (stepSweepDivider_frame s) :)
@[simp] theorem stepSweepDivider_sweepNegate : (stepSweepDivider s).sweepNegate = s.sweepNegate := (congrArg State.sweepNegate (stepSweepDivider_frame s) :)
@[simp] theorem stepSweepDivider_sweepShift : (stepSweepDivider s).sweepShift = s.sweepShift := (congrArg State.sweepShift (stepSweepDivider_frame s) :)
@[simp] theorem stepSweepDivider_sweepDividerPeriod : (stepSweepDivider s).sweepDividerPeriod = s.sweepDividerPeriod := (congrArg State.sweepDividerPeriod (stepSweepDivider_frame s) :)
@[simp] theorem stepSweepDivider_sweepReloadFlag : (stepSweepDivider s).sweepReloadFlag = s.sweepReloadFlag := (congrArg State.sweepReloadFlag (stepSweepDivider_frame s) :)
@[simp] theorem stepSweepDivider_linearCounter : (stepSweepDivider s).linearCounter = s.linearCounter := (congrArg State.linearCounter (stepSweepDivider_frame s) :)
@[simp] theorem stepSweepDivider_linearCounterReloadValue : (stepSweepDivider s).linearCounterReloadValue = s.linearCounterReloadValue := (congrArg State.linearCounterReloadValue (stepSweepDivider_frame s) :)
@[simp] theorem stepSweepDivider_linearCounterReloadFlag : (stepSweepDivider s).linearCounterReloadFlag = s.linearCounterReloadFlag := (congrArg State.linearCounterReloadFlag (stepSweepDivider_frame s) :)
@[simp] theorem stepSweepDivider_shiftRegister : (stepSweepDivider s).shiftRegister = s.shiftRegister := (congrArg State.shiftRegister (stepSweepDivider_frame s) :)
@[simp] theorem stepSweepDivider_shiftMode : (stepSweepDivider s).shiftMode = s.shiftMode := (congrArg State.shiftMode (stepSweepDivider_frame s) :)
@[simp] theorem stepSweepDivider_frameParity : (stepSweepDivider s).frameParity = s.frameParity := (congrArg State.frameParity (stepSweepDivider_frame s) :)
@[simp] theorem stepSweepDivider_pulseStep : (stepSweepDivider s).pulseStep = s.pulseStep := (congrArg State.pulseStep (stepSweepDivider_frame s) :)
@[simp] theorem stepSweepDivider_triStep : (stepSweepDivider s).triStep = s.triStep := (congrArg State.triStep (stepSweepDivider_frame s) :)
@[simp] theorem stepSweepDivider_dacOut : (stepSweepDivider s).dacOut = s.dacOut := (congrArg State.dacOut (stepSweepDivider_frame s) :)
@[simp] theorem stepSweepDivider_qAddr : (stepSweepDivider s).qAddr = s.qAddr := (congrArg State.qAddr (stepSweepDivider_frame s) :)
@[simp] theorem stepSweepDivider_qData : (stepSweepDivider s).qData = s.qData := (congrArg State.qData (stepSweepDivider_frame s) :)
@[simp] theorem stepSweepDivider_wr : (stepSweepDivider s).wr = s.wr := (congrArg State.wr (stepSweepDivider_frame s) :)
@[simp] theorem stepSweepDivider_rd : (stepSweepDivider s).rd = s.rd := (congrArg State.rd (stepSweepDivider_frame s) :)
@[simp] theorem stepSweepDivider_count : (stepSweepDivider s).count = s.count := (congrArg State.count (stepSweepDivider_frame s) :)
@[simp] theorem stepSweepDivider_unknownCount : (stepSweepDivider s).unknownCount = s.unknownCount := (congrArg State.unknownCount (stepSweepDivider_frame s) :)
@[simp] theorem stepSweepDivider_overflowCount : (stepSweepDivider s).overflowCount = s.overflowCount := (congrArg State.overflowCount (stepSweepDivider_frame s) :)
@[simp] theorem stepSweepDivider_notes : (stepSweepDivider s).notes = s.notes := (congrArg State.notes (stepSweepDivider_frame s) :)
@[simp] theorem stepSweepDivider_fifoLog2 : (stepSweepDivider s).fifoLog2 = s.fifoLog2 := (congrArg State.fifoLog2 (stepSweepDivider_frame s) :)
@[simp] theorem stepSweepDivider_lengthTable : (stepSweepDivider s).lengthTable = s.lengthTable := (congrArg State.lengthTable (stepSweepDivider_frame s) :)
@[simp] theorem stepSweepDivider_booted : (stepSweepDivider s).booted = s.booted := (congrArg State.booted (stepSweepDivider_frame s) :)
@[simp] theorem stepSweepDivider_script : (stepSweepDivider s).script = s.script := (congrArg State.script (stepSweepDivider_frame s) :)

/-! Fields that `stepSweepReload` leaves alone. -/

@[simp] theorem stepSweepReload_identity : (stepSweepReload s).identity = s.identity := (congrArg State.identity (stepSweepReload_eq s) :)
@[simp] theorem stepSweepReload_enabled : (stepSweepReload s).enabled = s.enabled := (congrArg State.enabled (stepSweepReload_eq s) :)
@[simp] theorem stepSweepReload_period : (stepSweepReload s).period = s.period := (congrArg State.period (stepSweepReload_eq s) :)
@[simp] theorem stepSweepReload_lengthCounter : (stepSweepReload s).lengthCounter = s.lengthCounter := (congrArg State.lengthCounter (stepSweepReload_eq s) :)
@[simp] theorem stepSweepReload_lengthCounterHalt : (stepSweepReload s).lengthCounterHalt = s.lengthCounterHalt := (congrArg State.lengthCounterHalt (stepSweepReload_eq s) :)
@[simp] theorem stepSweepReload_volume : (stepSweepReload s).volume = s.volume := (congrArg State.volume (stepSweepReload_eq s) :)
@[simp] theorem stepSweepReload_envConstFlag : (stepSweepReload s).envConstFlag = s.envConstFlag := (congrArg State.envConstFlag (stepSweepReload_eq s) :)
@[simp] theorem stepSweepReload_envReloadValue : (stepSweepReload s).envReloadValue = s.envReloadValue := (congrArg State.envReloadValue (stepSweepReload_eq s) :)
@[simp] theorem stepSweepReload_envDivider : (stepSweepReload s).envDivider = s.envDivider := (congrArg State.envDivider (stepSweepReload_eq s) :)
@[simp] theorem stepSweepReload_envVolume : (stepSweepReload s).envVolume = s.envVolume := (congrArg State.envVolume (stepSweepReload_eq s) :)
@[simp] theorem stepSweepReload_envReloadFlag : (stepSweepReload s).envReloadFlag = s.envReloadFlag := (congrArg State.envReloadFlag (stepSweepReload_eq s) :)
@[simp] theorem stepSweepReload_dutyCycle : (stepSweepReload s).dutyCycle = s.dutyCycle := (congrArg State.dutyCycle (stepSweepReload_eq s) :)
@[simp] theorem stepSweepReload_sweepEnabled : (stepSweepReload s).sweepEnabled = s.sweepEnabled := (congrArg State.sweepEnabled (stepSweepReload_eq s) :)
@[simp] theorem stepSweepReload_sweepNegate : (stepSweepReload s).sweepNegate = s.sweepNegate := (congrArg State.sweepNegate (stepSweepReload_eq s) :)
@[simp] theorem stepSweepReload_sweepShift : (stepSweepReload s).sweepShift = s.sweepShift := (congrArg State.sweepShift (stepSweepReload_eq s) :)
@[simp] theorem stepSweepReload_sweepDividerPeriod : (stepSweepReload s).sweepDividerPeriod = s.sweepDividerPeriod := (congrArg State.sweepDividerPeriod (stepSweepReload_eq s) :)
@[simp] theorem stepSweepReload_linearCounter : (stepSweepReload s).linearCounter = s.linearCounter := (congrArg State.linearCounter (stepSweepReload_eq s) :)
@[simp] theorem stepSweepReload_linearCounterReloadValue : (stepSweepReload s).linearCounterReloadValue = s.linearCounterReloadValue := (congrArg State.linearCounterReloadValue (stepSweepReload_eq s) :)
@[simp] theorem stepSweepReload_linearCounterReloadFlag : (stepSweepReload s).linearCounterReloadFlag = s.linearCounterReloadFlag := (congrArg State.linearCounterReloadFlag (stepSweepReload_eq s) :)
@[simp] theorem stepSweepReload_shiftRegister : (stepSweepReload s).shiftRegister = s.shiftRegister := (congrArg State.shiftRegister (stepSweepReload_eq s) :)
@[simp] theorem stepSweepReload_shiftMode : (stepSweepReload s).shiftMode = s.shiftMode := (congrArg State.shiftMode (stepSweepReload_eq s) :)
@[simp] theorem stepSweepReload_frameParity : (stepSweepReload s).frameParity = s.frameParity := (congrArg State.frameParity (stepSweepReload_eq s) :)
@[simp] theorem stepSweepReload_pulseStep : (stepSweepReload s).pulseStep = s.pulseStep := (congrArg State.pulseStep (stepSweepReload_eq s) :)
@[simp] theorem stepSweepReload_triStep : (stepSweepReload s).triStep = s.triStep := (congrArg State.triStep (stepSweepReload_eq s) :)
@[simp] theorem stepSweepReload_dacOut : (stepSweepReload s).dacOut = s.dacOut := (congrArg State.dacOut (stepSweepReload_eq s) :)
@[simp] theorem stepSweepReload_clkRunning : (stepSweepReload s).clkRunning = s.clkRunning := (congrArg State.clkRunning (stepSweepReload_eq s) :)
@[simp] theorem stepSweepReload_clkRate : (stepSweepReload s).clkRate = s.clkRate := (congrArg State.clkRate (stepSweepReload_eq s) :)
@[simp] theorem stepSweepReload_qAddr : (stepSweepReload s).qAddr = s.qAddr := (congrArg State.qAddr (stepSweepReload_eq s) :)
@[simp] theorem stepSweepReload_qData : (stepSweepReload s).qData = s.qData := (congrArg State.qData (stepSweepReload_eq s) :)
@[simp] theorem stepSweepReload_wr : (stepSweepReload s).wr = s.wr := (congrArg State.wr (stepSweepReload_eq s) :)
@[simp] theorem stepSweepReload_rd : (stepSweepReload s).rd = s.rd := (congrArg State.rd (stepSweepReload_eq s) :)
@[simp] theorem stepSweepReload_count : (stepSweepReload s).count = s.count := (congrArg State.count (stepSweepReload_eq s) :)
@[simp] theorem stepSweepReload_unknownCount : (stepSweepReload s).unknownCount = s.unknownCount := (congrArg State.unknownCount (stepSweepReload_eq s) :)
@[simp] theorem stepSweepReload_overflowCount : (stepSweepReload s).overflowCount = s.overflowCount := (congrArg State.overflowCount (stepSweepReload_eq s) :)
@[simp] theorem stepSweepReload_notes : (stepSweepReload s).notes = s.notes := (congrArg State.notes (stepSweepReload_eq s) :)
@[simp] theorem stepSweepReload_fifoLog2 : (stepSweepReload s).fifoLog2 = s.fifoLog2 := (congrArg State.fifoLog2 (stepSweepReload_eq s) :)
@[simp] theorem stepSweepReload_lengthTable : (stepSweepReload s).lengthTable = s.lengthTable := (congrArg State.lengthTable (stepSweepReload_eq s) :)
@[simp] theorem stepSweepReload_booted : (stepSweepReload s).booted = s.booted := (congrArg State.booted (stepSweepReload_eq s) :)
@[simp] theorem stepSweepReload_script : (stepSweepReload s).script = s.script := (congrArg State.script (stepSweepReload_eq s) :)

/-! Fields that `stepEnvelope` leaves alone. -/

@[simp] theorem stepEnvelope_identity : (stepEnvelope s).identity = s.identity := (congrArg State.identity (stepEnvelope_frame s) :)
@[simp] theorem stepEnvelope_enabled : (stepEnvelope s).enabled = s.enabled := (congrArg State.enabled (stepEnvelope_frame s) :)
@[simp] theorem stepEnvelope_period : (stepEnvelope s).period = s.period := (congrArg State.period (stepEnvelope_frame s) :)
@[simp] theorem stepEnvelope_lengthCounter : (stepEnvelope s).lengthCounter = s.lengthCounter := (congrArg State.lengthCounter (stepEnvelope_frame s) :)
@[simp] theorem stepEnvelope_lengthCounterHalt : (stepEnvelope s).lengthCounterHalt = s.lengthCounterHalt := (congrArg State.lengthCounterHalt (stepEnvelope_frame s) :)
@[simp] theorem stepEnvelope_volume : (stepEnvelope s).volume = s.volume := (congrArg State.volume (stepEnvelope_frame s) :)
@[simp] theorem stepEnvelope_envConstFlag : (stepEnvelope s).envConstFlag = s.envConstFlag := (congrArg State.envConstFlag (stepEnvelope_frame s) :)
@[simp] theorem stepEnvelope_envReloadValue : (stepEnvelope s).envReloadValue = s.envReloadValue := (congrArg State.envReloadValue (stepEnvelope_frame s) :)
@[simp] theorem stepEnvelope_dutyCycle : (stepEnvelope s).dutyCycle = s.dutyCycle := (congrArg State.dutyCycle (stepEnvelope_frame s) :)
@[simp] theorem stepEnvelope_sweepEnabled : (stepEnvelope s).sweepEnabled = s.sweepEnabled := (congrArg State.sweepEnabled (stepEnvelope_frame s) :)
@[simp] theorem stepEnvelope_sweepNegate : (stepEnvelope s).sweepNegate = s.sweepNegate := (congrArg State.sweepNegate (stepEnvelope_frame s) :)
@[simp] theorem stepEnvelope_sweepShift : (stepEnvelope s).sweepShift = s.sweepShift := (congrArg State.sweepShift (stepEnvelope_frame s) :)
@[simp] theorem stepEnvelope_sweepDividerPeriod : (stepEnvelope s).sweepDividerPeriod = s.sweepDividerPeriod := (congrArg State.sweepDividerPeriod (stepEnvelope_frame s) :)
@[simp] theorem stepEnvelope_sweepDividerCounter : (stepEnvelope s).sweepDividerCounter = s.sweepDividerCounter := (congrArg State.sweepDividerCounter (stepEnvelope_frame s) :)
@[simp] theorem stepEnvelope_sweepReloadFlag : (stepEnvelope s).sweepReloadFlag = s.sweepReloadFlag := (congrArg State.sweepReloadFlag (stepEnvelope_frame s) :)
@[simp] theorem stepEnvelope_linearCounter : (stepEnvelope s).linearCounter = s.linearCounter := (congrArg State.linearCounter (stepEnvelope_frame s) :)
@[simp] theorem stepEnvelope_linearCounterReloadValue : (stepEnvelope s).linearCounterReloadValue = s.linearCounterReloadValue := (congrArg State.linearCounterReloadValue (stepEnvelope_frame s) :)
@[simp] theorem stepEnvelope_linearCounterReloadFlag : (stepEnvelope s).linearCounterReloadFlag = s.linearCounterReloadFlag := (congrArg State.linearCounterReloadFlag (stepEnvelope_frame s) :)
@[simp] theorem stepEnvelope_shiftRegister : (stepEnvelope s).shiftRegister = s.shiftRegister := (congrArg State.shiftRegister (stepEnvelope_frame s) :)
@[simp] theorem stepEnvelope_shiftMode : (stepEnvelope s).shiftMode = s.shiftMode := (congrArg State.shiftMode (stepEnvelope_frame s) :)
@[simp] theorem stepEnvelope_frameParity : (stepEnvelope s).frameParity = s.frameParity := (congrArg State.frameParity (stepEnvelope_frame s) :)
@[simp] theorem stepEnvelope_pulseStep : (stepEnvelope s).pulseStep = s.pulseStep := (congrArg State.pulseStep (stepEnvelope_frame s) :)
@[simp] theorem stepEnvelope_triStep : (stepEnvelope s).triStep = s.triStep := (congrArg State.triStep (stepEnvelope_frame s) :)
@[simp] theorem stepEnvelope_dacOut : (stepEnvelope s).dacOut = s.dacOut := (congrArg State.dacOut (stepEnvelope_frame s) :)
@[simp] theorem stepEnvelope_clkRunning : (stepEnvelope s).clkRunning = s.clkRunning := (congrArg State.clkRunning (stepEnvelope_frame s) :)
@[simp] theorem stepEnvelope_clkRate : (stepEnvelope s).clkRate = s.clkRate := (congrArg State.clkRate (stepEnvelope_frame s) :)
@[simp] theorem stepEnvelope_qAddr : (stepEnvelope s).qAddr = s.qAddr := (congrArg State.qAddr (stepEnvelope_frame s) :)
@[simp] theorem stepEnvelope_qData : (stepEnvelope s).qData = s.qData := (congrArg State.qData (stepEnvelope_frame s) :)
@[simp] theorem stepEnvelope_wr : (stepEnvelope s).wr = s.wr := (congrArg State.wr (stepEnvelope_frame s) :)
@[simp] theorem stepEnvelope_rd : (stepEnvelope s).rd = s.rd := (congrArg State.rd (stepEnvelope_frame s) :)
@[simp] theorem stepEnvelope_count : (stepEnvelope s).count = s.count := (congrArg State.count (stepEnvelope_frame s) :)
@[simp] theorem stepEnvelope_unknownCount : (stepEnvelope s).unknownCount = s.unknownCount := (congrArg State.unknownCount (stepEnvelope_frame s) :)
@[simp] theorem stepEnvelope_overflowCount : (stepEnvelope s).overflowCount = s.overflowCount := (congrArg State.overflowCount (stepEnvelope_frame s) :)
@[simp] theorem stepEnvelope_notes : (stepEnvelope s).notes = s.notes := (congrArg State.notes (stepEnvelope_frame s) :)
@[simp] theorem stepEnvelope_fifoLog2 : (stepEnvelope s).fifoLog2 = s.fifoLog2 := (congrArg State.fifoLog2 (stepEnvelope_frame s) :)
@[simp] theorem stepEnvelope_lengthTable : (stepEnvelope s).lengthTable = s.lengthTable := (congrArg State.lengthTable (stepEnvelope_frame s) :)
@[simp] theorem stepEnvelope_booted : (stepEnvelope s).booted = s.booted := (congrArg State.booted (stepEnvelope_frame s) :)
@[simp] theorem stepEnvelope_script : (stepEnvelope s).script = s.script := (congrArg State.script (stepEnvelope_frame s) :)

/-! Fields that `stepLinear` leaves alone. -/

@[simp] theorem stepLinear_identity : (stepLinear s).identity = s.identity := (congrArg State.identity (stepLinear_frame s) :)
@[simp] theorem stepLinear_enabled : (stepLinear s).enabled = s.enabled := (congrArg State.enabled (stepLinear_frame s) :)
@[simp] theorem stepLinear_period : (stepLinear s).period = s.period := (congrArg State.period (stepLinear_frame s) :)
@[simp] theorem stepLinear_lengthCounter : (stepLinear s).lengthCounter = s.lengthCounter := (congrArg State.lengthCounter (stepLinear_frame s) :)
@[simp] theorem stepLinear_lengthCounterHalt : (stepLinear s).lengthCounterHalt = s.lengthCounterHalt := (congrArg State.lengthCounterHalt (stepLinear_frame s) :)
@[simp] theorem stepLinear_volume : (stepLinear s).volume = s.volume := (congrArg State.volume (stepLinear_frame s) :)
@[simp] theorem stepLinear_envConstFlag : (stepLinear s).envConstFlag = s.envConstFlag := (congrArg State.envConstFlag (stepLinear_frame s) :)
@[simp] theorem stepLinear_envReloadValue : (stepLinear s).envReloadValue = s.envReloadValue := (congrArg State.envReloadValue (stepLinear_frame s) :)
@[simp] theorem stepLinear_envDivider : (stepLinear s).envDivider = s.envDivider := (congrArg State.envDivider (stepLinear_frame s) :)
@[simp] theorem stepLinear_envVolume : (stepLinear s).envVolume = s.envVolume := (congrArg State.envVolume (stepLinear_frame s) :)
@[simp] theorem stepLinear_envReloadFlag : (stepLinear s).envReloadFlag = s.envReloadFlag := (congrArg State.envReloadFlag (stepLinear_frame s) :)
@[simp] theorem stepLinear_dutyCycle : (stepLinear s).dutyCycle = s.dutyCycle := (congrArg State.dutyCycle (stepLinear_frame s) :)
@[simp] theorem stepLinear_sweepEnabled : (stepLinear s).sweepEnabled = s.sweepEnabled := (congrArg State.sweepEnabled (stepLinear_frame s) :)
@[simp] theorem stepLinear_sweepNegate : (stepLinear s).sweepNegate = s.sweepNegate := (congrArg State.sweepNegate (stepLinear_frame s) :)
@[simp] theorem stepLinear_sweepShift : (stepLinear s).sweepShift = s.sweepShift := (congrArg State.sweepShift (stepLinear_frame s) :)
@[simp] theorem stepLinear_sweepDividerPeriod : (stepLinear s).sweepDividerPeriod = s.sweepDividerPeriod := (congrArg State.sweepDividerPeriod (stepLinear_frame s) :)
@[simp] theorem stepLinear_sweepDividerCounter : (stepLinear s).sweepDividerCounter = s.sweepDividerCounter := (congrArg State.sweepDividerCounter (stepLinear_frame s) :)
@[simp] theorem stepLinear_sweepReloadFlag : (stepLinear s).sweepReloadFlag = s.sweepReloadFlag := (congrArg State.sweepReloadFlag (stepLinear_frame s) :)
@[simp] theorem stepLinear_linearCounterReloadValue : (stepLinear s).linearCounterReloadValue = s.linearCounterReloadValue := (congrArg State.linearCounterReloadValue (stepLinear_frame s) :)
@[simp] theorem stepLinear_shiftRegister : (stepLinear s).shiftRegister = s.shiftRegister := (congrArg State.shiftRegister (stepLinear_frame s) :)
@[simp] theorem stepLinear_shiftMode : (stepLinear s).shiftMode = s.shiftMode := (congrArg State.shiftMode (stepLinear_frame s) :)
@[simp] theorem stepLinear_frameParity : (stepLinear s).frameParity = s.frameParity := (congrArg State.frameParity (stepLinear_frame s) :)
@[simp] theorem stepLinear_pulseStep : (stepLinear s).pulseStep = s.pulseStep := (congrArg State.pulseStep (stepLinear_frame s) :)
@[simp] theorem stepLinear_triStep : (stepLinear s).triStep = s.triStep := (congrArg State.triStep (stepLinear_frame s) :)
@[simp] theorem stepLinear_dacOut : (stepLinear s).dacOut = s.dacOut := (congrArg State.dacOut (stepLinear_frame s) :)
@[simp] theorem stepLinear_clkRunning : (stepLinear s).clkRunning = s.clkRunning := (congrArg State.clkRunning (stepLinear_frame s) :)
@[simp] theorem stepLinear_clkRate : (stepLinear s).clkRate = s.clkRate := (congrArg State.clkRate (stepLinear_frame s) :)
@[simp] theorem stepLinear_qAddr : (stepLinear s).qAddr = s.qAddr := (congrArg State.qAddr (stepLinear_frame s) :)
@[simp] theorem stepLinear_qData : (stepLinear s).qData = s.qData := (congrArg State.qData (stepLinear_frame s) :)
@[simp] theorem stepLinear_wr : (stepLinear s).wr = s.wr := (congrArg State.wr (stepLinear_frame s) :)
@[simp] theorem stepLinear_rd : (stepLinear s).rd = s.rd := (congrArg State.rd (stepLinear_frame s) :)
@[simp] theorem stepLinear_count : (stepLinear s).count = s.count := (congrArg State.count (stepLinear_frame s) :)
@[simp] theorem stepLinear_unknownCount : (stepLinear s).unknownCount = s.unknownCount := (congrArg State.unknownCount (stepLinear_frame s) :)
@[simp] theorem stepLinear_overflowCount : (stepLinear s).overflowCount = s.overflowCount := (congrArg State.overflowCount (stepLinear_frame s) :)
@[simp] theorem stepLinear_notes : (stepLinear s).notes = s.notes := (congrArg State.notes (stepLinear_frame s) :)
@[simp] theorem stepLinear_fifoLog2 : (stepLinear s).fifoLog2 = s.fifoLog2 := (congrArg State.fifoLog2 (stepLinear_frame s) :)
@[simp] theorem stepLinear_lengthTable : (stepLinear s).lengthTable = s.lengthTable := (congrArg State.lengthTable (stepLinear_frame s) :)
@[simp] theorem stepLinear_booted : (stepLinear s).booted = s.booted := (congrArg State.booted (stepLinear_frame s) :)
@[simp] theorem stepLinear_script : (stepLinear s).script = s.script := (congrArg State.script (stepLinear_frame s) :)

/-! Fields that `stepVolume` leaves alone. -/

@[simp] theorem stepVolume_identity : (stepVolume s).identity = s.identity := (congrArg State.identity (stepVolume_frame s) :)
@[simp] theorem stepVolume_enabled : (stepVolume s).enabled = s.enabled := (congrArg State.enabled (stepVolume_frame s) :)
@[simp] theorem stepVolume_period : (stepVolume s).period = s.period := (congrArg State.period (stepVolume_frame s) :)
@[simp] theorem stepVolume_lengthCounter : (stepVolume s).lengthCounter = s.lengthCounter := (congrArg State.lengthCounter (stepVolume_frame s) :)
@[simp] theorem stepVolume_lengthCounterHalt : (stepVolume s).lengthCounterHalt = s.lengthCounterHalt := (congrArg State.lengthCounterHalt (stepVolume_frame s) :)
@[simp] theorem stepVolume_envConstFlag : (stepVolume s).envConstFlag = s.envConstFlag := (congrArg State.envConstFlag (stepVolume_frame s) :)
@[simp] theorem stepVolume_envReloadValue : (stepVolume s).envReloadValue = s.envReloadValue := (congrArg State.envReloadValue (stepVolume_frame s) :)
@[simp] theorem stepVolume_envDivider : (stepVolume s).envDivider = s.envDivider := (congrArg State.envDivider (stepVolume_frame s) :)
@[simp] theorem stepVolume_envVolume : (stepVolume s).envVolume = s.envVolume := (congrArg State.envVolume (stepVolume_frame s) :)
@[simp] theorem stepVolume_envReloadFlag : (stepVolume s).envReloadFlag = s.envReloadFlag := (congrArg State.envReloadFlag (stepVolume_frame s) :)
@[simp] theorem stepVolume_dutyCycle : (stepVolume s).dutyCycle = s.dutyCycle := (congrArg State.dutyCycle (stepVolume_frame s) :)
@[simp] theorem stepVolume_sweepEnabled : (stepVolume s).sweepEnabled = s.sweepEnabled := (congrArg State.sweepEnabled (stepVolume_frame s) :)
@[simp] theorem stepVolume_sweepNegate : (stepVolume s).sweepNegate = s.sweepNegate := (congrArg State.sweepNegate (stepVolume_frame s) :)
@[simp] theorem stepVolume_sweepShift : (stepVolume s).sweepShift = s.sweepShift := (congrArg State.sweepShift (stepVolume_frame s) :)
@[simp] theorem stepVolume_sweepDividerPeriod : (stepVolume s).sweepDividerPeriod = s.sweepDividerPeriod := (congrArg State.sweepDividerPeriod (stepVolume_frame s) :)
@[simp] theorem stepVolume_sweepDividerCounter : (stepVolume s).sweepDividerCounter = s.sweepDividerCounter := (congrArg State.sweepDividerCounter (stepVolume_frame s) :)
@[simp] theorem stepVolume_sweepReloadFlag : (stepVolume s).sweepReloadFlag = s.sweepReloadFlag := (congrArg State.sweepReloadFlag (stepVolume_frame s) :)
@[simp] theorem stepVolume_linearCounter : (stepVolume s).linearCounter = s.linearCounter := (congrArg State.linearCounter (stepVolume_frame s) :)
@[simp] theorem stepVolume_linearCounterReloadValue : (stepVolume s).linearCounterReloadValue = s.linearCounterReloadValue := (congrArg State.linearCounterReloadValue (stepVolume_frame s) :)
@[simp] theorem stepVolume_linearCounterReloadFlag : (stepVolume s).linearCounterReloadFlag = s.linearCounterReloadFlag := (congrArg State.linearCounterReloadFlag (stepVolume_frame s) :)
@[simp] theorem stepVolume_shiftRegister : (stepVolume s).shiftRegister = s.shiftRegister := (congrArg State.shiftRegister (stepVolume_frame s) :)
@[simp] theorem stepVolume_shiftMode : (stepVolume s).shiftMode = s.shiftMode := (congrArg State.shiftMode (stepVolume_frame s) :)
@[simp] theorem stepVolume_frameParity : (stepVolume s).frameParity = s.frameParity := (congrArg State.frameParity (stepVolume_frame s) :)
@[simp] theorem stepVolume_pulseStep : (stepVolume s).pulseStep = s.pulseStep := (congrArg State.pulseStep (stepVolume_frame s) :)
@[simp] theorem stepVolume_triStep : (stepVolume s).triStep = s.triStep := (congrArg State.triStep (stepVolume_frame s) :)
@[simp] theorem stepVolume_dacOut : (stepVolume s).dacOut = s.dacOut := (congrArg State.dacOut (stepVolume_frame s) :)
@[simp] theorem stepVolume_clkRunning : (stepVolume s).clkRunning = s.clkRunning := (congrArg State.clkRunning (stepVolume_frame s) :)
@[simp] theorem stepVolume_clkRate : (stepVolume s).clkRate = s.clkRate := (congrArg State.clkRate (stepVolume_frame s) :)
@[simp] theorem stepVolume_qAddr : (stepVolume s).qAddr = s.qAddr := (congrArg State.qAddr (stepVolume_frame s) :)
@[simp] theorem stepVolume_qData : (stepVolume s).qData = s.qData := (congrArg State.qData (stepVolume_frame s) :)
@[simp] theorem stepVolume_wr : (stepVolume s).wr = s.wr := (congrArg State.wr (stepVolume_frame s) :)
@[simp] theorem stepVolume_rd : (stepVolume s).rd = s.rd := (congrArg State.rd (stepVolume_frame s) :)
@[simp] theorem stepVolume_count : (stepVolume s).count = s.count := (congrArg State.count (stepVolume_frame s) :)
@[simp] theorem stepVolume_unknownCount : (stepVolume s).unknownCount = s.unknownCount := (congrArg State.unknownCount (stepVolume_frame s) :)
@[simp] theorem stepVolume_overflowCount : (stepVolume s).overflowCount = s.overflowCount := (congrArg State.overflowCount (stepVolume_frame s) :)
@[simp] theorem stepVolume_notes : (stepVolume s).notes = s.notes := (congrArg State.notes (stepVolume_frame s) :)
@[simp] theorem stepVolume_fifoLog2 : (stepVolume s).fifoLog2 = s.fifoLog2 := (congrArg State.fifoLog2 (stepVolume_frame s) :)
@[simp] theorem stepVolume_lengthTable : (stepVolume s).lengthTable = s.lengthTable := (congrArg State.lengthTable (stepVolume_frame s) :)
@[simp] theorem stepVolume_booted : (stepVolume s).booted = s.booted := (congrArg State.booted (stepVolume_frame s) :)
@[simp] theorem stepVolume_script : (stepVolume s).script = s.script := (congrArg State.script (stepVolume_frame s) :)

/-! Fields that `stepNoiseClock` leaves alone. -/

@[simp] theorem stepNoiseClock_identity : (stepNoiseClock s).identity = s.identity := (congrArg State.identity (stepNoiseClock_frame s) :)
@[simp] theorem stepNoiseClock_enabled : (stepNoiseClock s).enabled = s.enabled := (congrArg State.enabled (stepNoiseClock_frame s) :)
@[simp] theorem stepNoiseClock_period : (stepNoiseClock s).period = s.period := (congrArg State.period (stepNoiseClock_frame s) :)
@[simp] theorem stepNoiseClock_lengthCounter : (stepNoiseClock s).lengthCounter = s.lengthCounter := (congrArg State.lengthCounter (stepNoiseClock_frame s) :)
@[simp] theorem stepNoiseClock_lengthCounterHalt : (stepNoiseClock s).lengthCounterHalt = s.lengthCounterHalt := (congrArg State.lengthCounterHalt (stepNoiseClock_frame s) :)
@[simp] theorem stepNoiseClock_volume : (stepNoiseClock s).volume = s.volume := (congrArg State.volume (stepNoiseClock_frame s) :)
@[simp] theorem stepNoiseClock_envConstFlag : (stepNoiseClock s).envConstFlag = s.envConstFlag := (congrArg State.envConstFlag (stepNoiseClock_frame s) :)
@[simp] theorem stepNoiseClock_envReloadValue : (stepNoiseClock s).envReloadValue = s.envReloadValue := (congrArg State.envReloadValue (stepNoiseClock_frame s) :)
@[simp] theorem stepNoiseClock_envDivider : (stepNoiseClock s).envDivider = s.envDivider := (congrArg State.envDivider (stepNoiseClock_frame s) :)
@[simp] theorem stepNoiseClock_envVolume : (stepNoiseClock s).envVolume = s.envVolume := (congrArg State.envVolume (stepNoiseClock_frame s) :)
@[simp] theorem stepNoiseClock_envReloadFlag : (stepNoiseClock s).envReloadFlag = s.envReloadFlag := (congrArg State.envReloadFlag (stepNoiseClock_frame s) :)
@[simp] theorem stepNoiseClock_dutyCycle : (stepNoiseClock s).dutyCycle = s.dutyCycle := (congrArg State.dutyCycle (stepNoiseClock_frame s) :)
@[simp] theorem stepNoiseClock_sweepEnabled : (stepNoiseClock s).sweepEnabled = s.sweepEnabled := (congrArg State.sweepEnabled (stepNoiseClock_frame s) :)
@[simp] theorem stepNoiseClock_sweepNegate : (stepNoiseClock s).sweepNegate = s.sweepNegate := (congrArg State.sweepNegate (stepNoiseClock_frame s) :)
@[simp] theorem stepNoiseClock_sweepShift : (stepNoiseClock s).sweepShift = s.sweepShift := (congrArg State.sweepShift (stepNoiseClock_frame s) :)
@[simp] theorem stepNoiseClock_sweepDividerPeriod : (stepNoiseClock s).sweepDividerPeriod = s.sweepDividerPeriod := (congrArg State.sweepDividerPeriod (stepNoiseClock_frame s) :)
@[simp] theorem stepNoiseClock_sweepDividerCounter : (stepNoiseClock s).sweepDividerCounter = s.sweepDividerCounter := (congrArg State.sweepDividerCounter (stepNoiseClock_frame s) :)
@[simp] theorem stepNoiseClock_sweepReloadFlag : (stepNoiseClock s).sweepReloadFlag = s.sweepReloadFlag := (congrArg State.sweepReloadFlag (stepNoiseClock_frame s) :)
@[simp] theorem stepNoiseClock_linearCounter : (stepNoiseClock s).linearCounter = s.linearCounter := (congrArg State.linearCounter (stepNoiseClock_frame s) :)
@[simp] theorem stepNoiseClock_linearCounterReloadValue : (stepNoiseClock s).linearCounterReloadValue = s.linearCounterReloadValue := (congrArg State.linearCounterReloadValue (stepNoiseClock_frame s) :)
@[simp] theorem stepNoiseClock_linearCounterReloadFlag : (stepNoiseClock s).linearCounterReloadFlag = s.linearCounterReloadFlag := (congrArg State.linearCounterReloadFlag (stepNoiseClock_frame s) :)
@[simp] theorem stepNoiseClock_shiftRegister : (stepNoiseClock s).shiftRegister = s.shiftRegister := (congrArg State.shiftRegister (stepNoiseClock_frame s) :)
@[simp] theorem stepNoiseClock_shiftMode : (stepNoiseClock s).shiftMode = s.shiftMode := (congrArg State.shiftMode (stepNoiseClock_frame s) :)
@[simp] theorem stepNoiseClock_frameParity : (stepNoiseClock s).frameParity = s.frameParity := (congrArg State.frameParity (stepNoiseClock_frame s) :)
@[simp] theorem stepNoiseClock_pulseStep : (stepNoiseClock s).pulseStep = s.pulseStep := (congrArg State.pulseStep (stepNoiseClock_frame s) :)
@[simp] theorem stepNoiseClock_triStep : (stepNoiseClock s).triStep = s.triStep := (congrArg State.triStep (stepNoiseClock_frame s) :)
@[simp] theorem stepNoiseClock_dacOut : (stepNoiseClock s).dacOut = s.dacOut := (congrArg State.dacOut (stepNoiseClock_frame s) :)
@[simp] theorem stepNoiseClock_clkRate : (stepNoiseClock s).clkRate = s.clkRate := (congrArg State.clkRate (stepNoiseClock_frame s) :)
@[simp] theorem stepNoiseClock_qAddr : (stepNoiseClock s).qAddr = s.qAddr := (congrArg State.qAddr (stepNoiseClock_frame s) :)
@[simp] theorem stepNoiseClock_qData : (stepNoiseClock s).qData = s.qData := (congrArg State.qData (stepNoiseClock_frame s) :)
@[simp] theorem stepNoiseClock_wr : (stepNoiseClock s).wr = s.wr := (congrArg State.wr (stepNoiseClock_frame s) :)
@[simp] theorem stepNoiseClock_rd : (stepNoiseClock s).rd = s.rd := (congrArg State.rd (stepNoiseClock_frame s) :)
@[simp] theorem stepNoiseClock_count : (stepNoiseClock s).count = s.count := (congrArg State.count (stepNoiseClock_frame s) :)
@[simp] theorem stepNoiseClock_unknownCount : (stepNoiseClock s).unknownCount = s.unknownCount := (congrArg State.unknownCount (stepNoiseClock_frame s) :)
@[simp] theorem stepNoiseClock_overflowCount : (stepNoiseClock s).overflowCount = s.overflowCount := (congrArg State.overflowCount (stepNoiseClock_frame s) :)
@[simp] theorem stepNoiseClock_notes : (stepNoiseClock s).notes = s.notes := (congrArg State.notes (stepNoiseClock_frame s) :)
@[simp] theorem stepNoiseClock_fifoLog2 : (stepNoiseClock s).fifoLog2 = s.fifoLog2 := (congrArg State.fifoLog2 (stepNoiseClock_frame s) :)
@[simp] theorem stepNoiseClock_lengthTable : (stepNoiseClock s).lengthTable = s.lengthTable := (congrArg State.lengthTable (stepNoiseClock_frame s) :)
@[simp] theorem stepNoiseClock_booted : (stepNoiseClock s).booted = s.booted := (congrArg State.booted (stepNoiseClock_frame s) :)
@[simp] theorem stepNoiseClock_script : (stepNoiseClock s).script = s.script := (congrArg State.script (stepNoiseClock_frame s) :)

/-! Fields that the whole of step 6 leaves alone. -/

@[simp] theorem stepSweep_identity : (stepSweep s).identity = s.identity := by
  unfold stepSweep; split <;> simp only [stepSweepReload_identity, stepSweepDivider_identity]
@[simp] theorem stepSweep_enabled : (stepSweep s).enabled = s.enabled := by
  unfold stepSweep; split <;> simp only [stepSweepReload_enabled, stepSweepDivider_enabled]
@[simp] theorem stepSweep_lengthCounter : (stepSweep s).lengthCounter = s.lengthCounter := by
  unfold stepSweep; split <;> simp only [stepSweepReload_lengthCounter, stepSweepDivider_lengthCounter]
@[simp] theorem stepSweep_lengthCounterHalt : (stepSweep s).lengthCounterHalt = s.lengthCounterHalt := by
  unfold stepSweep; split <;> simp only [stepSweepReload_lengthCounterHalt, stepSweepDivider_lengthCounterHalt]
@[simp] theorem stepSweep_envConstFlag : (stepSweep s).envConstFlag = s.envConstFlag := by
  unfold stepSweep; split <;> simp only [stepSweepReload_envConstFlag, stepSweepDivider_envConstFlag]
@[simp] theorem stepSweep_envReloadValue : (stepSweep s).envReloadValue = s.envReloadValue := by
  unfold stepSweep; split <;> simp only [stepSweepReload_envReloadValue, stepSweepDivider_envReloadValue]
@[simp] theorem stepSweep_envDivider : (stepSweep s).envDivider = s.envDivider := by
  unfold stepSweep; split <;> simp only [stepSweepReload_envDivider, stepSweepDivider_envDivider]
@[simp] theorem stepSweep_envVolume : (stepSweep s).envVolume = s.envVolume := by
  unfold stepSweep; split <;> simp only [stepSweepReload_envVolume, stepSweepDivider_envVolume]
@[simp] theorem stepSweep_envReloadFlag : (stepSweep s).envReloadFlag = s.envReloadFlag := by
  unfold stepSweep; split <;> simp only [stepSweepReload_envReloadFlag, stepSweepDivider_envReloadFlag]
@[simp] theorem stepSweep_dutyCycle : (stepSweep s).dutyCycle = s.dutyCycle := by
  unfold stepSweep; split <;> simp only [stepSweepReload_dutyCycle, stepSweepDivider_dutyCycle]
@[simp] theorem stepSweep_sweepEnabled : (stepSweep s).sweepEnabled = s.sweepEnabled := by
  unfold stepSweep; split <;> simp only [stepSweepReload_sweepEnabled, stepSweepDivider_sweepEnabled]
@[simp] theorem stepSweep_sweepNegate : (stepSweep s).sweepNegate = s.sweepNegate := by
  unfold stepSweep; split <;> simp only [stepSweepReload_sweepNegate, stepSweepDivider_sweepNegate]
@[simp] theorem stepSweep_sweepShift : (stepSweep s).sweepShift = s.sweepShift := by
  unfold stepSweep; split <;> simp only [stepSweepReload_sweepShift, stepSweepDivider_sweepShift]
@[simp] theorem stepSweep_sweepDividerPeriod : (stepSweep s).sweepDividerPeriod = s.sweepDividerPeriod := by
  unfold stepSweep; split <;> simp only [stepSweepReload_sweepDividerPeriod, stepSweepDivider_sweepDividerPeriod]
@[simp] theorem stepSweep_linearCounter : (stepSweep s).linearCounter = s.linearCounter := by
  unfold stepSweep; split <;> simp only [stepSweepReload_linearCounter, stepSweepDivider_linearCounter]
@[simp] theorem stepSweep_linearCounterReloadValue : (stepSweep s).linearCounterReloadValue = s.linearCounterReloadValue := by
  unfold stepSweep; split <;> simp only [stepSweepReload_linearCounterReloadValue, stepSweepDivider_linearCounterReloadValue]
@[simp] theorem stepSweep_linearCounterReloadFlag : (stepSweep s).linearCounterReloadFlag = s.linearCounterReloadFlag := by
  unfold stepSweep; split <;> simp only [stepSweepReload_linearCounterReloadFlag, stepSweepDivider_linearCounterReloadFlag]
@[simp] theorem stepSweep_shiftRegister : (stepSweep s).shiftRegister = s.shiftRegister := by
  unfold stepSweep; split <;> simp only [stepSweepReload_shiftRegister, stepSweepDivider_shiftRegister]
@[simp] theorem stepSweep_shiftMode : (stepSweep s).shiftMode = s.shiftMode := by
  unfold stepSweep; split <;> simp only [stepSweepReload_shiftMode, stepSweepDivider_shiftMode]
@[simp] theorem stepSweep_frameParity : (stepSweep s).frameParity = s.frameParity := by
  unfold stepSweep; split <;> simp only [stepSweepReload_frameParity, stepSweepDivider_frameParity]
@[simp] theorem stepSweep_pulseStep : (stepSweep s).pulseStep = s.pulseStep := by
  unfold stepSweep; split <;> simp only [stepSweepReload_pulseStep, stepSweepDivider_pulseStep]
@[simp] theorem stepSweep_triStep : (stepSweep s).triStep = s.triStep := by
  unfold stepSweep; split <;> simp only [stepSweepReload_triStep, stepSweepDivider_triStep]
@[simp] theorem stepSweep_dacOut : (stepSweep s).dacOut = s.dacOut := by
  unfold stepSweep; split <;> simp only [stepSweepReload_dacOut, stepSweepDivider_dacOut]
@[simp] theorem stepSweep_qAddr : (stepSweep s).qAddr = s.qAddr := by
  unfold stepSweep; split <;> simp only [stepSweepReload_qAddr, stepSweepDivider_qAddr]
@[simp] theorem stepSweep_qData : (stepSweep s).qData = s.qData := by
  unfold stepSweep; split <;> simp only [stepSweepReload_qData, stepSweepDivider_qData]
@[simp] theorem stepSweep_wr : (stepSweep s).wr = s.wr := by
  unfold stepSweep; split <;> simp only [stepSweepReload_wr, stepSweepDivider_wr]
@[simp] theorem stepSweep_rd : (stepSweep s).rd = s.rd := by
  unfold stepSweep; split <;> simp only [stepSweepReload_rd, stepSweepDivider_rd]
@[simp] theorem stepSweep_count : (stepSweep s).count = s.count := by
  unfold stepSweep; split <;> simp only [stepSweepReload_count, stepSweepDivider_count]
@[simp] theorem stepSweep_unknownCount : (stepSweep s).unknownCount = s.unknownCount := by
  unfold stepSweep; split <;> simp only [stepSweepReload_unknownCount, stepSweepDivider_unknownCount]
@[simp] theorem stepSweep_overflowCount : (stepSweep s).overflowCount = s.overflowCount := by
  unfold stepSweep; split <;> simp only [stepSweepReload_overflowCount, stepSweepDivider_overflowCount]
@[simp] theorem stepSweep_notes : (stepSweep s).notes = s.notes := by
  unfold stepSweep; split <;> simp only [stepSweepReload_notes, stepSweepDivider_notes]
@[simp] theorem stepSweep_fifoLog2 : (stepSweep s).fifoLog2 = s.fifoLog2 := by
  unfold stepSweep; split <;> simp only [stepSweepReload_fifoLog2, stepSweepDivider_fifoLog2]
@[simp] theorem stepSweep_lengthTable : (stepSweep s).lengthTable = s.lengthTable := by
  unfold stepSweep; split <;> simp only [stepSweepReload_lengthTable, stepSweepDivider_lengthTable]
@[simp] theorem stepSweep_booted : (stepSweep s).booted = s.booted := by
  unfold stepSweep; split <;> simp only [stepSweepReload_booted, stepSweepDivider_booted]
@[simp] theorem stepSweep_script : (stepSweep s).script = s.script := by
  unfold stepSweep; split <;> simp only [stepSweepReload_script, stepSweepDivider_script]

end Sys2Proof.Machine
end

