-- ==== Sys2Proof/Laws/PerInstr.lean ====
section
/-! SUPPORT. The families of statements made per instruction, one lemma for each row of the opcode table.
`PairEncoding`: a command is exactly one pair of bytes (R60, R67), an event has no encoding (R68). -/

namespace Sys2Proof.Laws.PairEncoding

/-- A row that is some identity's command encodes to one address byte and one value byte; an event row
encodes to nothing. -/
def Statement (i : Instr) : Prop :=
  match i.identity with
  | some _ => ∃ a v : Byte, encode i = some [a, v]
  | none => encode i = none

theorem p1Reg0 : ∀ dy h c vol, Statement (.p1Reg0 dy h c vol) := fun _ _ _ _ => ⟨_, _, rfl⟩
theorem p1Reg1 : ∀ e p n sh, Statement (.p1Reg1 e p n sh) := fun _ _ _ _ => ⟨_, _, rfl⟩
theorem p1Reg2 : ∀ t, Statement (.p1Reg2 t) := fun _ => ⟨_, _, rfl⟩
theorem p1Reg3 : ∀ l t, Statement (.p1Reg3 l t) := fun _ _ => ⟨_, _, rfl⟩
theorem p2Reg0 : ∀ dy h c vol, Statement (.p2Reg0 dy h c vol) := fun _ _ _ _ => ⟨_, _, rfl⟩
theorem p2Reg1 : ∀ e p n sh, Statement (.p2Reg1 e p n sh) := fun _ _ _ _ => ⟨_, _, rfl⟩
theorem p2Reg2 : ∀ t, Statement (.p2Reg2 t) := fun _ => ⟨_, _, rfl⟩
theorem p2Reg3 : ∀ l t, Statement (.p2Reg3 l t) := fun _ _ => ⟨_, _, rfl⟩
theorem triReg0 : ∀ h r, Statement (.triReg0 h r) := fun _ _ => ⟨_, _, rfl⟩
theorem triReg1 : ∀ v, Statement (.triReg1 v) := fun _ => ⟨_, _, rfl⟩
theorem triReg2 : ∀ t, Statement (.triReg2 t) := fun _ => ⟨_, _, rfl⟩
theorem triReg3 : ∀ l t, Statement (.triReg3 l t) := fun _ _ => ⟨_, _, rfl⟩
theorem noiReg0 : ∀ ign h c vol, Statement (.noiReg0 ign h c vol) := fun _ _ _ _ => ⟨_, _, rfl⟩
theorem noiReg1 : ∀ v, Statement (.noiReg1 v) := fun _ => ⟨_, _, rfl⟩
theorem noiReg2 : ∀ m ign x, Statement (.noiReg2 m ign x) := fun _ _ _ => ⟨_, _, rfl⟩
theorem noiReg3 : ∀ l ign, Statement (.noiReg3 l ign) := fun _ _ => ⟨_, _, rfl⟩
theorem p1En : ∀ v, Statement (.p1En v) := fun _ => ⟨_, _, rfl⟩
theorem p2En : ∀ v, Statement (.p2En v) := fun _ => ⟨_, _, rfl⟩
theorem triEn : ∀ v, Statement (.triEn v) := fun _ => ⟨_, _, rfl⟩
theorem noiEn : ∀ v, Statement (.noiEn v) := fun _ => ⟨_, _, rfl⟩
theorem p1Unk : ∀ a v, Statement (.p1Unk a v) := fun _ _ => ⟨_, _, rfl⟩
theorem p2Unk : ∀ a v, Statement (.p2Unk a v) := fun _ _ => ⟨_, _, rfl⟩
theorem triUnk : ∀ a v, Statement (.triUnk a v) := fun _ _ => ⟨_, _, rfl⟩
theorem noiUnk : ∀ a v, Statement (.noiUnk a v) := fun _ _ => ⟨_, _, rfl⟩
theorem reset : ∀ cfg, Statement (.reset cfg) := fun _ => rfl
theorem push : ∀ a v, Statement (.push a v) := fun _ _ => rfl
theorem pop : Statement .pop := rfl
theorem frame : Statement .frame := rfl
theorem sample : Statement .sample := rfl

end Sys2Proof.Laws.PairEncoding
end

