-- ==== Sys2Proof/Laws/Step.lean ====
section
/-! SUPPORT. What one step can do, said once: `step_cases` says which of three things a step is, `step_keeps`
splits it into the operations of the five events, so that a property of all steps is one small goal for each;
that each invariant sees only the fields it names; and how the observation of a run is put together. -/

namespace Sys2Proof.Machine

open Sys2Proof.Safety

/-- The next event is the head of the script. -/
theorem nextEvent_eq_some {s : State} {e : Event} : s.nextEvent = some e ↔ ∃ es, s.script = e :: es := by
  unfold State.nextEvent
  cases s.script <;> simp

/-- A step does nothing (no event to come), spends an event that is not enabled, or runs an enabled one. -/
theorem step_cases {s t : State} (h : step s = .next t) :
    (s.nextEvent = none ∧ t = s) ∨
    (∃ e, s.nextEvent = some e ∧ s.enables e = false ∧ t = s.advance) ∨
    (∃ e, s.nextEvent = some e ∧ s.enables e = true ∧ exec e.toInstr s.advance = .next t) := by
  unfold step at h
  cases hn : s.nextEvent with
  | none => rw [hn] at h; injection h with h; exact .inl ⟨rfl, h.symm⟩
  | some e =>
    rw [hn] at h
    cases he : s.enables e with
    | false => simp only [he] at h; injection h with h; exact .inr (.inl ⟨e, rfl, he, h.symm⟩)
    | true => simp only [he] at h; exact .inr (.inr ⟨e, rfl, he, h⟩)

/-- A property that taking an event off the script keeps, and every event's own operation keeps, is kept by
every step. The operations: `boot` on a node that has had no reset, `fifoPush`,
`dropHead` then a command of the node's own identity, one frame edge, one tick of a running clock. -/
theorem step_keeps (Q : State → Prop)
    (hadvance : ∀ s, Q s → Q s.advance)
    (hreset : ∀ s cfg, Q s → s.booted = false → Q (State.boot cfg s.fifoLog2 s.lengthTable s.script))
    (hpush : ∀ s a v, Q s → Q (fifoPush a v s))
    (hdrop : ∀ s, Q s → s.count ≠ 0 → Q (dropHead s))
    (hcommand : ∀ s i t, Q s → i.identity = some s.identity → exec i s = .next t → Q t)
    (hframe : ∀ s, Q s → Q (frameEdge s))
    (hsample : ∀ s, Q s → s.clkRunning = true → Q (sampleTick s)) :
    ∀ s t, Q s → step s = .next t → Q t := by
  intro s t hq h
  obtain ⟨-, rfl⟩ | ⟨e, -, -, rfl⟩ | ⟨e, -, he, h⟩ := step_cases h
  · exact hq
  · exact hadvance s hq
  · have ha := hadvance s hq
    have hb : s.advance.booted = s.booted := rfl
    generalize s.advance = u at h ha hb
    cases e with
    | reset cfg => injection h with h; exact h ▸ hreset u cfg ha (hb.trans (by simpa [State.enables] using he))
    | push a v => injection h with h; exact h ▸ hpush u a v ha
    | pop =>
      have h : execPop u = .next t := h
      unfold execPop at h
      split at h
      · injection h with h; exact h ▸ ha
      · rename_i hc
        rw [runCommand_eq_exec _ (decodeCommand_identity _ _ _)] at h
        exact hcommand _ _ _ (hdrop u ha hc) (by simp) h
    | frame => injection h with h; exact h ▸ hframe u ha
    | sample =>
      have h : execSample u = .next t := h
      unfold execSample at h
      split at h
      · rename_i hc; injection h with h; exact h ▸ hsample u ha hc
      · injection h with h; exact h ▸ ha

/-- The push keeps a property that a note, taking the oldest pair, and appending a pair keep. -/
theorem fifoPush_keeps (Q : State → Prop) (hnote : ∀ s n, Q s → Q (note n s)) (hdrop : ∀ s, Q s → Q (dropHead s))
    (happend : ∀ s a v, Q s → Q (appendPair a v s)) : ∀ s a v, Q s → Q (fifoPush a v s) := by
  intro s a v h
  refine happend _ a v ?_
  obtain ⟨-, e⟩ | ⟨-, e⟩ := makeRoom_cases s <;> rw [e]
  · exact h
  · exact hdrop _ (hnote _ _ h)

/-- A frame edge keeps a property that the toggle and the six steps keep. -/
theorem frameEdge_keeps (Q : State → Prop) (htoggle : ∀ s, Q s → Q (toggleParity s))
    (hlength : ∀ s, Q s → Q (stepLength s)) (hsweep : ∀ s, Q s → Q (stepSweep s))
    (henvelope : ∀ s, Q s → Q (stepEnvelope s)) (hlinear : ∀ s, Q s → Q (stepLinear s))
    (hvolume : ∀ s, Q s → Q (stepVolume s)) (hclock : ∀ s, Q s → Q (stepNoiseClock s)) :
    ∀ s, Q s → Q (frameEdge s) := by
  intro s h
  unfold frameEdge
  split
  · exact hclock _ (hvolume _ (hlinear _ (henvelope _ (hsweep _ (hlength _ (htoggle _ h))))))
  · exact hclock _ (hvolume _ (hlinear _ (henvelope _ (htoggle _ h))))

variable {s t : State}

/-- The clock equation sees four fields. -/
theorem clockWf_congr (hi : t.identity = s.identity) (hp : t.period = s.period) (hr : t.clkRate = s.clkRate)
    (hc : t.clkRunning = s.clkRunning) (h : ClockWf s) : ClockWf t :=
  ⟨by rw [hr, hp]; exact h.rate, fun hx => by rw [hc, hp]; exact h.pulseRuns (hi ▸ hx),
    fun hx => by rw [hc, hp]; exact h.triangleRuns (hi ▸ hx)⟩

/-- The constraints on the length table see the table alone. -/
theorem tableWf_congr (ht : t.lengthTable = s.lengthTable) (h : TableWf s) : TableWf t :=
  ⟨by rw [ht]; exact h.entry1, fun i => by rw [ht]; exact h.range i⟩

/-- The ranges see eight fields. -/
theorem rangeWf_congr (hi : t.identity = s.identity) (hp : t.period = s.period)
    (hl : t.lengthCounter = s.lengthCounter) (hd : t.dutyCycle = s.dutyCycle)
    (hs : t.sweepDividerPeriod = s.sweepDividerPeriod) (hc : t.sweepDividerCounter = s.sweepDividerCounter)
    (hr : t.clkRate = s.clkRate) (hf : t.shiftRegister = s.shiftRegister)
    (h : RangeWf s) : RangeWf t :=
  ⟨by rw [hl]; exact h.length, by rw [hd]; exact h.duty, by rw [hs]; exact h.dividerPeriod,
    by rw [hc]; exact h.dividerCounter, fun hx => by rw [hp]; exact h.noisePeriod (hi ▸ hx),
    fun hx => by rw [hr]; exact h.noiseRate (hi ▸ hx), by rw [hf]; exact h.lfsr⟩

/-- The order of the ring sees the two memories, the indices, the count and the capacity. -/
theorem fifoWf_congr (ha : t.qAddr = s.qAddr) (hd : t.qData = s.qData) (hw : t.wr = s.wr) (hr : t.rd = s.rd)
    (hc : t.count = s.count) (hk : t.fifoLog2 = s.fifoLog2) (h : FifoWf s) : FifoWf t := by
  have hcap : t.fifoCapacity = s.fifoCapacity := congrArg (2 ^ ·) hk
  refine ⟨by rw [ha]; exact h.addrWf, by rw [hd]; exact h.dataWf, by rw [hr, hcap]; exact h.rdBound,
    by rw [hc, hcap]; exact h.countBound, ?_⟩
  unfold State.wrap
  rw [hw, hr, hc, hcap]
  exact h.wrAfter

/-- The fields of other identities see the fields they name. -/
theorem identityWf_congr (hi : t.identity = s.identity)
    (h1 : t.dutyCycle = s.dutyCycle) (h2 : t.sweepEnabled = s.sweepEnabled) (h3 : t.sweepNegate = s.sweepNegate)
    (h4 : t.sweepShift = s.sweepShift) (h5 : t.sweepDividerPeriod = s.sweepDividerPeriod)
    (h6 : t.sweepDividerCounter = s.sweepDividerCounter) (h7 : t.sweepReloadFlag = s.sweepReloadFlag)
    (h8 : t.pulseStep = s.pulseStep) (h9 : t.linearCounter = s.linearCounter)
    (h10 : t.linearCounterReloadValue = s.linearCounterReloadValue)
    (h11 : t.linearCounterReloadFlag = s.linearCounterReloadFlag) (h12 : t.triStep = s.triStep)
    (h13 : t.shiftRegister = s.shiftRegister) (h14 : t.shiftMode = s.shiftMode)
    (h15 : t.envConstFlag = s.envConstFlag) (h16 : t.envReloadValue = s.envReloadValue)
    (h17 : t.envDivider = s.envDivider) (h18 : t.envVolume = s.envVolume)
    (h19 : t.envReloadFlag = s.envReloadFlag) (h20 : t.volume = s.volume) (h : IdentityWf s) : IdentityWf t :=
  ⟨fun hx => by rw [h1, h2, h3, h4, h5, h6, h7, h8]; exact h.pulseOnly (hi ▸ hx),
    fun hx => by rw [h9, h10, h11, h12]; exact h.triangleOnly (hi ▸ hx),
    fun hx => by rw [h13, h14]; exact h.noiseOnly (hi ▸ hx),
    fun hx => by rw [h15, h16, h17, h18, h19, h20]; exact h.noEnvelope (hi ▸ hx)⟩

/-- A `SAMPLE` next on a node whose reset has happened and whose clock runs is one tick of its generator. -/
theorem step_sample (es : List Event) (hb : s.booted = true) (hc : s.clkRunning = true)
    (hs : s.script = .sample :: es) : step s = .next (sampleTick { s with script := es }) := by
  have he : s.enables .sample = true := by simp [State.enables, hb, hc]
  have ha : s.advance = { s with script := es } := by simp [State.advance, hs]
  unfold step
  rw [nextEvent_eq_some.2 ⟨es, hs⟩]
  simp only [he, if_true, ha]
  exact if_pos hc

/-- What a step shows is one value of `dac_out` where its event is an enabled `SAMPLE`, else nothing (R191). -/
theorem sampleShown_eq :
    sampleShown s t = if s.nextEvent = some .sample ∧ s.enables .sample = true then [t.dacOut] else [] := by
  unfold sampleShown
  split <;> rename_i h <;> simp [h]

/-! The observation of a run (R191). -/

@[simp] theorem observe_zero : observe 0 s = observeNow s := rfl

/-- One more step in front of a run adds what that step shows. -/
theorem observe_succ (k : Nat) (h : step s = .next t) :
    observe (k + 1) s = { observe k t with dac := sampleShown s t ++ (observe k t).dac } := by
  rw [observe, h]

/-- The notes of an observation are those of its final state. -/
theorem observe_notes (k : Nat) : ∀ s, (observe k s).notes = (observe k s).final.notes := by
  induction k with
  | zero => exact fun _ => rfl
  | succ k ih => intro s; unfold observe; split <;> first | exact ih _ | rfl

/-- A run of `m` steps and then `k` more shows the first trace and then the second, since every step answers a
next state (R160). -/
theorem observe_add (hstep : ∀ s, ∃ t, step s = .next t) (k m : Nat) : ∀ s,
    (observe (m + k) s).final = (observe k (observe m s).final).final ∧
      (observe (m + k) s).dac = (observe m s).dac ++ (observe k (observe m s).final).dac := by
  induction m with
  | zero => intro s; rw [Nat.zero_add]; exact ⟨rfl, rfl⟩
  | succ m ih =>
    intro s
    rw [Nat.add_right_comm]
    obtain ⟨t, h⟩ := hstep s
    rw [observe_succ _ h, observe_succ _ h]
    simp [ih t]

end Sys2Proof.Machine
end

