-- ==== Sys2Proof/Tests/Slice0.lean ====
section
/-! SUPPORT. Tests: ill-formed terms refused, words written out from the tables of R62 and R70 decoded, one
or two single steps for each instruction with the results of spec/95_test_vectors.md or of the rule's own
example, and for each statement with hypotheses a state and operands that meet them. -/

namespace Sys2Proof.Tests

open Sys2Proof.Machine Sys2Proof.Safety

/-- A node of one identity in its reset state. -/
def node (id : Identity) : State := { State.reset with identity := id }

/-- The state after one instruction. -/
def after (i : Instr) (s : State) : State :=
  match exec i s with
  | .next t => t
  | .fault _ => s
  | .refused _ => s

/-- The state after the command `W a, v` (R69). -/
def write (a v : Byte) (s : State) : State := after (decodeCommand s.identity a v) s

/-- The capacity-4 ring of program E before its fifth push: `[00:BF, 04:11, 02:FD, 03:08]`. -/
def fullRing : State :=
  { State.reset with
    qAddr := [(0, 0x00), (1, 0x04), (2, 0x02), (3, 0x03)]
    qData := [(0, 0xBF), (1, 0x11), (2, 0xFD), (3, 0x08)]
    count := 4 }

/-- The same ring one slot further round, with one pair taken: `[04:11, 02:FD, 03:08]`. -/
def threeLeft : State := { fullRing with rd := 1, count := 3 }

/-! ### WellFormed: the one check of each identity's UNKNOWN row -/

theorem test_wf_p1_refuses_window : (Instr.p1Unk 0x03 0x00).wellFormed = false := by decide
theorem test_wf_p1_refuses_enable : (Instr.p1Unk 0x15 0x00).wellFormed = false := by decide
theorem test_wf_p2_refuses_window : (Instr.p2Unk 0x04 0x00).wellFormed = false := by decide
theorem test_wf_tri_refuses_window : (Instr.triUnk 0x0B 0x00).wellFormed = false := by decide
theorem test_wf_noi_refuses_window : (Instr.noiUnk 0x0C 0x00).wellFormed = false := by decide
theorem test_wf_accepts_neighbours :
    (Instr.p1Unk 0x04 0).wellFormed ∧ (Instr.p2Unk 0x03 0).wellFormed ∧ (Instr.triUnk 0x0C 0).wellFormed ∧
    (Instr.noiUnk 0x10 0).wellFormed := by decide

/-! ### Classification (vector E-1) -/

theorem test_classify_pulse1 :
    [0x00, 0x03, 0x04, 0x09, 0x0D, 0x0F, 0x10, 0x14, 0x15, 0x16, 0x17, 0xFF].map (classify .pulse1) =
      [.reg0, .reg3, .unknown, .unknown, .unknown, .unknown, .unknown, .unknown, .enable, .unknown, .unknown,
        .unknown] := by decide
theorem test_classify_noise :
    [0x00, 0x04, 0x09, 0x0D, 0x0F, 0x10, 0x14, 0x15, 0x16, 0xFF].map (classify .noise) =
      [.unknown, .unknown, .unknown, .reg1, .reg3, .unknown, .unknown, .enable, .unknown, .unknown] := by decide

/-! ### Decoding: words written out bit by bit from R62 and R70 -/

theorem test_decode_p1Reg0 : decode .pulse1 [0b00000000, 0b10_0_1_0110] = .ok (.p1Reg0 2 false true 6, []) := rfl
theorem test_decode_p1Reg1 : decode .pulse1 [0b00000001, 0b1_001_1_001] = .ok (.p1Reg1 true 1 true 1, []) := rfl
theorem test_decode_p1Reg2 : decode .pulse1 [0b00000010, 0b11111101] = .ok (.p1Reg2 0xFD, []) := rfl
theorem test_decode_p1Reg3 : decode .pulse1 [0b00000011, 0b00001_110] = .ok (.p1Reg3 1 6, []) := rfl
theorem test_decode_p2Reg0 : decode .pulse2 [0b00000100, 0b01_1_1_0110] = .ok (.p2Reg0 1 true true 6, []) := rfl
theorem test_decode_p2Reg1 : decode .pulse2 [0b00000101, 0b0_111_1_010] = .ok (.p2Reg1 false 7 true 2, []) := rfl
theorem test_decode_p2Reg2 : decode .pulse2 [0b00000110, 0b00010000] = .ok (.p2Reg2 0x10, []) := rfl
theorem test_decode_p2Reg3 : decode .pulse2 [0b00000111, 0b11110_001] = .ok (.p2Reg3 30 1, []) := rfl
theorem test_decode_triReg0 : decode .triangle [0b00001000, 0b1_0000101] = .ok (.triReg0 true 5, []) := rfl
theorem test_decode_triReg1 : decode .triangle [0b00001001, 0b11111111] = .ok (.triReg1 0xFF, []) := rfl
theorem test_decode_triReg2 : decode .triangle [0b00001010, 0b00100000] = .ok (.triReg2 0x20, []) := rfl
theorem test_decode_triReg3 : decode .triangle [0b00001011, 0b11111_001] = .ok (.triReg3 31 1, []) := rfl
theorem test_decode_noiReg0 : decode .noise [0b00001100, 0b11_1_0_1010] = .ok (.noiReg0 3 true false 10, []) := rfl
theorem test_decode_noiReg1 : decode .noise [0b00001101, 0b10000000] = .ok (.noiReg1 0x80, []) := rfl
theorem test_decode_noiReg2 : decode .noise [0b00001110, 0b1_011_0101] = .ok (.noiReg2 true 3 5, []) := rfl
theorem test_decode_noiReg3 : decode .noise [0b00001111, 0b00011_111] = .ok (.noiReg3 3 7, []) := rfl
theorem test_decode_enable :
    decode .pulse1 [0b00010101, 0x0A] = .ok (.p1En 0x0A, []) ∧ decode .pulse2 [0b00010101, 0x0A] = .ok (.p2En 0x0A, []) ∧
    decode .triangle [0b00010101, 0x0A] = .ok (.triEn 0x0A, []) ∧
    decode .noise [0b00010101, 0x0A] = .ok (.noiEn 0x0A, []) := ⟨rfl, rfl, rfl, rfl⟩
theorem test_decode_unknown :
    decode .pulse1 [0x04, 0xAA] = .ok (.p1Unk 0x04 0xAA, []) ∧ decode .pulse2 [0x00, 0xAA] = .ok (.p2Unk 0x00 0xAA, []) ∧
    decode .triangle [0x10, 0xAA] = .ok (.triUnk 0x10 0xAA, []) ∧
    decode .noise [0xFF, 0xAA] = .ok (.noiUnk 0xFF 0xAA, []) := ⟨rfl, rfl, rfl, rfl⟩
theorem test_decode_two_commands :
    decode .noise [0x0E, 0x85, 0x0F, 0x18] = .ok (.noiReg2 true 0 5, [0x0F, 0x18]) := rfl
theorem test_decode_no_bytes : decode .pulse1 [] = .error .noBytes := rfl
theorem test_decode_address_alone : decode .pulse1 [0x00] = .error .addressWithoutValue := rfl
theorem test_events_are_rows :
    [Event.reset 2, .push 1 2, .pop, .frame, .sample].map Event.toInstr =
      [.reset 2, .push 1 2, .pop, .frame, .sample] := by decide

/-! ### The register commands (vectors S4, S6, D-1 to D-22, H-1) -/

theorem test_p1Reg0_S6 :
    write 0x00 0x3F (node .pulse1) =
      { node .pulse1 with envReloadValue := 15, envConstFlag := true, lengthCounterHalt := true, dutyCycle := 2 } := by
  decide
theorem test_p1Reg0_S4 :
    [0x00, 0x40, 0x80, 0xC0].map (fun v => (write 0x00 v (node .pulse1)).dutyCycle) = [2, 4, 8, 12] := by decide
theorem test_p2Reg0 :
    write 0x04 0x76 (node .pulse2) =
      { node .pulse2 with envReloadValue := 6, envConstFlag := true, lengthCounterHalt := true, dutyCycle := 4 } := by
  decide
theorem test_p1Reg1_R83 :
    write 0x01 0x99 (node .pulse1) =
      { node .pulse1 with sweepEnabled := true, sweepDividerPeriod := 2, sweepNegate := true, sweepShift := 1,
                          sweepReloadFlag := true } := by decide
theorem test_p2Reg1_D3 :
    write 0x05 0xFF (node .pulse2) =
      { node .pulse2 with sweepEnabled := true, sweepDividerPeriod := 8, sweepNegate := true, sweepShift := 7,
                          sweepReloadFlag := true } := by decide
theorem test_p2Reg1_D4 :
    write 0x05 0x00 (node .pulse2) =
      { node .pulse2 with sweepDividerPeriod := 1, sweepReloadFlag := true } := by decide
theorem test_p1Reg2_D6 :
    write 0x02 0x07 (node .pulse1) = { node .pulse1 with period := 7, clkRate := 7 } := by decide
theorem test_p1Reg2_D9 :
    write 0x02 0x00 { node .pulse1 with period := 0x708, clkRate := 0x708, clkRunning := true } =
      { node .pulse1 with period := 0x700, clkRate := 0x700, clkRunning := true } := by decide
theorem test_p2Reg2_minimum_runs :
    write 0x06 0x08 (node .pulse2) = { node .pulse2 with period := 8, clkRate := 8, clkRunning := true } := by decide
theorem test_p1Reg3_D8 :
    write 0x03 0xFF { node .pulse1 with period := 8, clkRate := 8, clkRunning := true } =
      { node .pulse1 with period := 0x708, clkRate := 0x708, clkRunning := true, lengthCounter := 30,
                          envReloadFlag := true } := by decide
theorem test_p1Reg3_D10 :
    write 0x03 0x00 { node .pulse1 with period := 0x700, clkRate := 0x700, clkRunning := true } =
      { node .pulse1 with lengthCounter := 10, envReloadFlag := true } := by decide
theorem test_p2Reg3_R88 :
    write 0x07 0x09 (node .pulse2) =
      { node .pulse2 with period := 0x100, clkRate := 0x100, clkRunning := true, lengthCounter := 254,
                          envReloadFlag := true } := by decide
theorem test_triReg0_D12 :
    write 0x08 0x7F (node .triangle) = { node .triangle with linearCounterReloadValue := 127 } := by decide
theorem test_triReg1_D15 :
    write 0x09 0xFF (node .triangle) =
      { node .triangle with notes := [.unknownRegister 0x09 0xFF], unknownCount := 1 } := by decide
theorem test_triReg2_D13 :
    write 0x0A 0x03 (node .triangle) = { node .triangle with period := 3, clkRate := 3 } := by decide
theorem test_triReg2_minimum_runs :
    write 0x0A 0x04 (node .triangle) = { node .triangle with period := 4, clkRate := 4, clkRunning := true } := by
  decide
theorem test_triReg3_D14 :
    write 0x0B 0xF9 { node .triangle with period := 4, clkRate := 4, clkRunning := true } =
      { node .triangle with period := 0x104, clkRate := 0x104, clkRunning := true, lengthCounter := 30,
                            linearCounterReloadFlag := true } := by decide
theorem test_noiReg0_D16 :
    write 0x0C 0xFF (node .noise) =
      { node .noise with envReloadValue := 15, envConstFlag := true, lengthCounterHalt := true } := by decide
theorem test_noiReg1_D21 :
    write 0x0D 0x01 (node .noise) =
      { node .noise with notes := [.unknownRegister 0x0D 0x01], unknownCount := 1 } := by decide
theorem test_noiReg2_D17 :
    write 0x0E 0xFF (node .noise) =
      { node .noise with shiftMode := true, period := 15, clkRate := 15, clkRunning := true } := by decide
theorem test_noiReg3_D20 :
    write 0x0F 0x07 (node .noise) = { node .noise with lengthCounter := 10, envReloadFlag := true } := by decide
theorem test_noiReg3_R96_example :
    write 0x0F 0x18 (node .noise) = { node .noise with lengthCounter := 2, envReloadFlag := true } := by decide
theorem test_enable_D22 :
    [Identity.pulse1, .pulse2, .triangle, .noise].map (fun id =>
        [0x0F, 0x05, 0x0A, 0x00, 0xF0].map fun v => (write 0x15 v (node id)).enabled) =
      [[true, true, false, false, false], [true, false, true, false, false], [true, true, false, false, false],
        [true, false, true, false, false]] := by decide
theorem test_unknown_R98 :
    write 0x04 0x11 (node .pulse1) =
      { node .pulse1 with notes := [.unknownRegister 0x04 0x11], unknownCount := 1 } ∧
    write 0x17 0x00 (node .noise) =
      { node .noise with notes := [.unknownRegister 0x17 0x00], unknownCount := 1 } := by decide
theorem test_unknown_E2 :
    [Identity.pulse1, .pulse2, .triangle, .noise].map (fun id =>
        ([0x00, 0x04, 0x08, 0x0C, 0x10, 0x14, 0x16, 0x17, 0xFF].filter
          fun a => (write a 0xAA (node id)).unknownCount = 1).length) = [8, 8, 8, 8] := by decide
theorem test_torn_period_H1 :
    write 0x02 0x00 { node .pulse1 with period := 0x0FF, clkRate := 0x0FF, clkRunning := true } = node .pulse1 := by
  decide
theorem test_length_table_two_entries :
    State.reset.lengthEntry 1 = 254 ∧ State.reset.lengthEntry 31 = 30 := by decide
theorem test_length_table_is_the_nodes_own :
    write 0x0F 0x18 { node .noise with lengthTable := defaultLengthTable.set 3 99 } =
      { node .noise with lengthTable := defaultLengthTable.set 3 99, lengthCounter := 99, envReloadFlag := true } := by
  decide

/-! ### RESET (vector I-1) -/

theorem test_reset_I1 :
    [0, 1, 2, 3].map (fun cfg => (after (.reset cfg) fullRing).identity) = [.pulse1, .pulse2, .triangle, .noise] := by
  decide
theorem test_reset_empties_the_fifo :
    after (.reset 3) { fullRing with volume := 9, shiftRegister := 0x4000, overflowCount := 2 } = node .noise := by
  decide

theorem test_step_reset_once :
    step { fullRing with script := [.reset 3, .frame] } = .next { fullRing with script := [.frame] } := by rfl
theorem test_step_nothing_before_reset :
    [Event.push 0 0, .pop, .frame, .sample].map
        (fun e => step { fullRing with booted := false, clkRunning := true, script := [e] }) =
      [0, 0, 0, 0].map fun _ : Nat => .next { fullRing with booted := false, clkRunning := true } := by rfl

/-! ### PUSH and POP (program E, vectors Q-2, Q-3) -/

theorem test_push_overflow_program_E :
    after (.push 0x15 0x01) fullRing =
      { fullRing with
        qAddr := [(0, 0x15), (1, 0x04), (2, 0x02), (3, 0x03)]
        qData := [(0, 0x01), (1, 0x11), (2, 0xFD), (3, 0x08)]
        wr := 1, rd := 1, notes := [.fifoOverflow 0x00 0xBF], overflowCount := 1 } := by decide
theorem test_push_capacity_one_Q2 :
    after (.push 0x00 0x22)
        { State.reset with fifoLog2 := 0, qAddr := [(0, 0x00)], qData := [(0, 0x11)], count := 1 } =
      { State.reset with fifoLog2 := 0, qAddr := [(0, 0x00)], qData := [(0, 0x22)], count := 1,
                         notes := [.fifoOverflow 0x00 0x11], overflowCount := 1 } := by decide
theorem test_pop_program_E :
    after .pop { fullRing with rd := 2, wr := 0, count := 2 } =
      { fullRing with rd := 3, wr := 0, count := 1, period := 253, clkRate := 253, clkRunning := true } := by decide
theorem test_pop_wraps_the_read_index :
    after .pop { fullRing with rd := 3, wr := 0, count := 1 } =
      { fullRing with rd := 0, wr := 0, count := 0, lengthCounter := 254, envReloadFlag := true } := by decide
theorem test_pop_of_an_empty_fifo : after .pop (node .noise) = node .noise := by decide

/-! ### FRAME (vectors S6, S7, F-1, F-6, F-7, F-12; programs A, C, D) -/

theorem test_frame_S6 :
    after .frame { node .pulse1 with envReloadValue := 15, envConstFlag := true, lengthCounterHalt := true,
                                     dutyCycle := 2, lengthCounter := 254, envReloadFlag := true } =
      { node .pulse1 with envReloadValue := 15, envConstFlag := true, lengthCounterHalt := true, dutyCycle := 2,
                          lengthCounter := 254, envDivider := 15, envVolume := 15, volume := 15,
                          frameParity := true } := by decide

/-- S7 at F2: the mute inside step 6 is overwritten by step 3, the commit is blocked. -/
theorem test_frame_S7_overflow_blocks_the_commit :
    after .frame { node .pulse1 with
      envReloadValue := 10, envConstFlag := true, lengthCounterHalt := true, dutyCycle := 2, sweepEnabled := true,
      sweepDividerPeriod := 1, sweepReloadFlag := true, period := 0x700, clkRate := 0x700, clkRunning := true,
      lengthCounter := 254, volume := 10, envVolume := 15, envDivider := 10, frameParity := true } =
    { node .pulse1 with
      envReloadValue := 10, envConstFlag := true, lengthCounterHalt := true, dutyCycle := 2, sweepEnabled := true,
      sweepDividerPeriod := 1, sweepDividerCounter := 1, period := 0x700, clkRate := 0x700, clkRunning := true,
      lengthCounter := 254, volume := 10, envVolume := 15, envDivider := 9 } := by decide

/-- Program A at F4: the length counter runs out and mutes, the sweep divider counts. -/
theorem test_frame_program_A_F4 :
    after .frame { node .pulse1 with
      enabled := true, envReloadValue := 2, dutyCycle := 8, sweepDividerPeriod := 1, sweepDividerCounter := 1,
      period := 16, clkRate := 16, clkRunning := true, lengthCounter := 1, volume := 15, envVolume := 15,
      frameParity := true } =
    { node .pulse1 with
      enabled := true, envReloadValue := 2, dutyCycle := 8, sweepDividerPeriod := 1, sweepDividerCounter := 0,
      period := 16, clkRate := 16, clkRunning := true, volume := 0, envVolume := 14, envDivider := 2 } := by decide

/-- Program B at F2: 256 goes to 128 on Pulse2 and to 127 on Pulse1. -/
theorem test_frame_program_B_F2 :
    [Identity.pulse1, .pulse2].map (fun id =>
      let t := after .frame { node id with
        envReloadValue := 6, envConstFlag := true, lengthCounterHalt := true, dutyCycle := 4, sweepEnabled := true,
        sweepNegate := true, sweepDividerPeriod := 2, sweepShift := 1, sweepReloadFlag := true, period := 256,
        clkRate := 256, clkRunning := true, lengthCounter := 254, volume := 6, frameParity := true }
      (t.period, t.clkRate, t.clkRunning, t.sweepDividerCounter, t.sweepReloadFlag)) =
    [(127, 127, true, 2, false), (128, 128, true, 2, false)] := by decide

/-- F-6 at F6: a target below 8 is committed and stops the clock. -/
theorem test_frame_F6_commit_below_the_minimum :
    let t := after .frame { node .pulse2 with
      sweepEnabled := true, sweepNegate := true, sweepDividerPeriod := 1, sweepShift := 1, period := 8, clkRate := 8,
      clkRunning := true, frameParity := true }
    (t.period, t.clkRate, t.clkRunning, t.sweepDividerCounter) = (4, 4, false, 1) := by decide

/-- F-3: sweep targets of both pulse units. -/
theorem test_sweep_targets_F3 :
    [(0x100, 1, true), (0x100, 0, true), (0x009, 3, true), (0x000, 0, true), (0x7FF, 7, true), (0x7FF, 0, false),
        (0x555, 1, false)].map
      (fun c => (sweepTargetOf .pulse1 c.1 c.2.1 c.2.2, sweepTargetOf .pulse2 c.1 c.2.1 c.2.2)) =
    [(0x007F, 0x0080), (0xFFFF, 0x0000), (0x0007, 0x0008), (0xFFFF, 0x0000), (0x07EF, 0x07F0), (0x0FFE, 0x0FFE),
        (0x07FF, 0x07FF)] := by decide

/-- Program C at F1: the linear counter is loaded and its flag cleared; a Triangle's volume stays 0. -/
theorem test_frame_program_C_F1 :
    after .frame { node .triangle with
      linearCounterReloadValue := 3, period := 32, clkRate := 32, clkRunning := true, lengthCounter := 254,
      linearCounterReloadFlag := true } =
    { node .triangle with
      linearCounterReloadValue := 3, period := 32, clkRate := 32, clkRunning := true, lengthCounter := 254,
      linearCounter := 3, frameParity := true } := by decide

/-- Program D at F4: the muting edge stops the noise clock and leaves the DAC at 14. -/
theorem test_frame_program_D_F4 :
    after .frame { node .noise with
      envReloadValue := 1, shiftMode := true, period := 5, clkRate := 5, clkRunning := true, lengthCounter := 1,
      envDivider := 1, envVolume := 14, volume := 14, shiftRegister := 0x4024, dacOut := 14, frameParity := true } =
    { node .noise with
      envReloadValue := 1, shiftMode := true, period := 5, clkRate := 5, clkRunning := false, lengthCounter := 0,
      envDivider := 0, envVolume := 14, volume := 0, shiftRegister := 0x4024, dacOut := 14 } := by decide

/-- F-11 at F17: the loop flag wraps the envelope to 15. -/
theorem test_frame_envelope_loop_F11 :
    (after .frame { node .noise with lengthCounterHalt := true, lengthCounter := 254 }).envVolume = 15 := by decide

/-! ### SAMPLE (vectors G-1, G-2, G-4) -/

/-- G-1, duty 2: the tick to step 1 is high, the tick to step 2 is low, the tick to step 0 is high. -/
theorem test_sample_pulse_G1 :
    [0, 1, 15].map (fun k =>
      let t := after .sample { node .pulse2 with clkRunning := true, volume := 15, dutyCycle := 2, pulseStep := k }
      (t.pulseStep, t.dacOut)) = [(1, 15), (2, 0), (0, 15)] := by decide

/-- G-2: 15 and 0 each last two ticks. -/
theorem test_sample_triangle_G2 :
    [0, 14, 15, 16, 30, 31].map (fun k =>
      let t := after .sample { node .triangle with clkRunning := true, linearCounter := 1, lengthCounter := 1,
                                                   triStep := k }
      (t.triStep, t.dacOut)) = [(1, 1), (15, 15), (16, 15), (17, 14), (31, 0), (0, 0)] := by decide

/-- Program C: with the gate closed the level is held. -/
theorem test_sample_triangle_holds :
    let s := { node .triangle with clkRunning := true, lengthCounter := 252, triStep := 8, dacOut := 8 }
    after .sample s = s := by decide

/-- G-4, with volume 15. -/
theorem test_sample_noise_G4 :
    [(false, 0x0001), (true, 0x0001), (false, 0x0002), (true, 0x0002), (true, 0x0040), (false, 0x7FFF)].map (fun c =>
      let t := after .sample { node .noise with clkRunning := true, volume := 15, shiftMode := c.1,
                                                shiftRegister := c.2 }
      (t.shiftRegister, t.dacOut)) =
    [(0x4000, 15), (0x4000, 15), (0x4001, 0), (0x0001, 0), (0x4020, 15), (0x3FFF, 0)] := by decide

theorem test_sample_of_a_stopped_clock :
    after .sample { node .pulse1 with volume := 15, dutyCycle := 12 } =
      { node .pulse1 with volume := 15, dutyCycle := 12 } := by decide

/-! ### The step and the host's view of a table word -/

theorem test_step_takes_the_next_event :
    step { node .pulse1 with script := [.frame, .sample] } =
      .next { node .pulse1 with frameParity := true, script := [.sample] } := by rfl
theorem test_step_idles : step State.reset = .next State.reset := by rfl
theorem test_table_word_reads : decodeTableWord 16 0x0E85 = some (.noiReg2 true 0 5) := by decide
theorem test_table_word_reset : decodeTableWord 8 2 = some (.reset 2) := by decide
theorem test_table_word_too_long : decodeTableWord 16 0x10000 = none ∧ decodeTableWord 8 4 = none := by decide
theorem test_fetch_word_runs_next :
    (match step (State.reset.withFetchWord 16 0x0E85) with
    | .next t => decide ((t.identity, t.shiftMode, t.period, t.clkRunning, t.count) = (.noise, true, 5, true, 0))
    | .fault _ => false
    | .refused _ => false) = true := by decide
theorem test_fetch_word_reset_runs_next :
    step (State.reset.withFetchWord 8 2) = .next (node .triangle) := by rfl

/-! ### Witnesses: for every statement with hypotheses, states and operands that meet them, one for each
clause, at a boundary of its range -/

/-- A pulse node in mid-note with one pair `03:08` waiting in the last slot of its ring: every invariant holds
in it, and no field is at its reset value where the note has moved it. -/
def tone : State :=
  { node .pulse1 with
    enabled := true, period := 8, clkRate := 8, clkRunning := true, lengthCounter := 2, volume := 14,
    envVolume := 14, envReloadValue := 2, dutyCycle := 8, sweepDividerPeriod := 1, sweepDividerCounter := 1,
    pulseStep := 4, dacOut := 14, qAddr := fullRing.qAddr, qData := fullRing.qData, rd := 3, wr := 0, count := 1 }

/-- A noise node in mid-note. -/
def hiss : State :=
  { node .noise with
    period := 5, clkRate := 5, clkRunning := true, lengthCounter := 1, volume := 14, envVolume := 14,
    shiftRegister := 0x4024, dacOut := 14 }

/-- A triangle node with its gate open. -/
def ramp : State :=
  { node .triangle with
    period := 4, clkRate := 4, clkRunning := true, lengthCounter := 254, linearCounter := 3,
    linearCounterReloadValue := 3, linearCounterReloadFlag := true, lengthCounterHalt := true, triStep := 15,
    dacOut := 15 }

theorem test_fullRing_in_order : FifoWf fullRing := ⟨by decide, by decide, by decide, by decide, by decide⟩
theorem test_threeLeft_in_order : FifoWf threeLeft := ⟨by decide, by decide, by decide, by decide, by decide⟩
theorem test_empty_ring_in_order : FifoWf (node .pulse1) := ⟨.nil, .nil, by decide, by decide, by decide⟩

/-- The default length table meets its constraints. -/
theorem test_default_table : TableWf fullRing := ⟨by decide, by decide⟩

theorem test_tone_safe : Safe tone where
  fifo := ⟨by decide, by decide, by decide, by decide, by decide⟩
  occupied := fun n hn q => by
    obtain rfl : n = 0 := Nat.lt_one_iff.1 hn
    cases q <;> decide
  bounded := fun q => by cases q <;> decide
  table := ⟨by decide, by decide⟩
  clock := ⟨rfl, fun _ => by decide, fun h => absurd h (by decide)⟩
  mute := fun h => absurd h (by decide)
  lfsr := by unfold LfsrWf; decide
  range := ⟨by decide, by decide, by decide, by decide, fun h => absurd h (by decide),
    fun h => absurd h (by decide), by decide⟩
  fields := ⟨fun h => absurd rfl h.1, fun _ => by decide, fun _ => by decide, fun h => absurd h (by decide)⟩
  notes := ⟨by decide, by decide⟩

/-- DecodeOfEncodeIsTheCommand, with every operand at the top of its range. -/
theorem test_witness_decode_of_encode :
    (Instr.p1Reg0 3 true true 15).wellFormed = true ∧ (Instr.p1Reg0 3 true true 15).identity = some .pulse1 ∧
    encode (.p1Reg0 3 true true 15) = some [0x00, 0xFF] ∧ (Instr.noiUnk 0xFF 0).wellFormed = true ∧
    (Instr.noiUnk 0xFF 0).identity = some .noise ∧ encode (.noiUnk 0xFF 0) = some [0xFF, 0x00] := by decide

/-- IgnoredBitsChangeNothing: two different values that agree in the node's own bit, for each identity. -/
theorem test_witness_ignored_bits :
    ((node .pulse1).identity = .pulse1 ∧ (0x01 : Byte).getLsbD 0 = (0xFF : Byte).getLsbD 0) ∧
    ((node .pulse2).identity = .pulse2 ∧ (0x02 : Byte).getLsbD 1 = (0xFF : Byte).getLsbD 1) ∧
    ((node .triangle).identity = .triangle ∧ (0x04 : Byte).getLsbD 2 = (0xFF : Byte).getLsbD 2) ∧
    ((node .noise).identity = .noise ∧ (0x08 : Byte).getLsbD 3 = (0xFF : Byte).getLsbD 3) := by decide

/-- StepRunsTheNextEvent: no event; and an event of each kind, enabled and not. -/
theorem test_witness_step_event :
    State.reset.script = [] ∧
    [Event.reset 0, .push 0 0, .pop, .frame, .sample].map
        (fun e => (({ tone with booted := false }).enables e, tone.enables e, (node .pulse1).enables e)) =
      [(true, false, false), (false, true, true), (false, true, false), (false, true, true),
        (false, true, false)] := by decide

/-- StepRunsTheDecodedCommand: the last slot of the ring. -/
theorem test_witness_step_command :
    tone.booted = true ∧ ({ tone with script := [.pop, .frame] }).script = .pop :: [.frame] ∧ tone.count ≠ 0 ∧
    decode tone.identity [tone.memRead .addr tone.rd, tone.memRead .data tone.rd] = .ok (.p1Reg3 1 0, []) :=
  ⟨rfl, rfl, by decide, rfl⟩

/-- Reg2, Pulse Reg3, Triangle Reg3, Enable: a node of each identity they ask for. -/
theorem test_witness_identities :
    (node .pulse1).identity = .pulse1 ∧ (node .pulse2).identity = .pulse2 ∧ (node .triangle).identity = .triangle ∧
    (node .noise).identity = .noise := by decide

/-- NoCommandWritesSequencerState, CommandTwiceIsCommandOnce. -/
theorem test_witness_command :
    (Instr.triReg3 31 7).identity = some .triangle ∧ ∃ t, exec (.triReg3 31 7) ramp = .next t := ⟨rfl, _, rfl⟩

/-- ResetStateIsSafe and FrameAfterResetOnlyTogglesParity. -/
theorem test_witness_reset : TableWf fullRing ∧ exec (.reset 3) fullRing = .next (node .noise) :=
  ⟨test_default_table, rfl⟩

/-- PushAppendsAndDropsTheOldestWhenFull: one pair short of full, and full. -/
theorem test_witness_push :
    (FifoWf threeLeft ∧ threeLeft.queue.length ≠ threeLeft.fifoCapacity) ∧
    (FifoWf fullRing ∧ fullRing.queue.length = fullRing.fifoCapacity ∧
      fullRing.queue = (0x00, 0xBF) :: [(0x04, 0x11), (0x02, 0xFD), (0x03, 0x08)]) :=
  ⟨⟨test_threeLeft_in_order, by decide⟩, test_fullRing_in_order, by decide, by decide⟩

/-- PopRunsTheOldestPair: a ring that holds pairs, and an empty one. -/
theorem test_witness_pop :
    (FifoWf threeLeft ∧ threeLeft.queue = (0x04, 0x11) :: [(0x02, 0xFD), (0x03, 0x08)]) ∧
    (FifoWf (node .pulse1) ∧ (node .pulse1).queue = []) :=
  ⟨⟨test_threeLeft_in_order, by decide⟩, test_empty_ring_in_order, by decide⟩

/-- PushThenPopRunsThePushedCommand. -/
theorem test_witness_push_then_pop :
    FifoWf { node .pulse1 with script := [.push 0x02 0x10, .pop] } ∧
    (node .pulse1).booted = true ∧ ({ node .pulse1 with script := [.push 0x02 0x10, .pop] }).count = 0 ∧
    ({ node .pulse1 with script := [.push 0x02 0x10, .pop] }).script = .push 0x02 0x10 :: .pop :: [] ∧
    decode .pulse1 [0x02, 0x10] = .ok (.p1Reg2 0x10, []) :=
  ⟨⟨.nil, .nil, by decide, by decide, by decide⟩, rfl, rfl, rfl, rfl⟩

/-- FrameRunsTheEnvelope: the flag set; clear with the divider at 0; clear with the divider above 0. -/
theorem test_witness_envelope :
    (({ hiss with envReloadFlag := true }).identity ≠ .triangle ∧ ({ hiss with envReloadFlag := true }).envReloadFlag = true) ∧
    (hiss.identity ≠ .triangle ∧ hiss.envReloadFlag = false ∧ hiss.envDivider = 0) ∧
    (({ tone with envDivider := 1 }).identity ≠ .triangle ∧ tone.envReloadFlag = false ∧
      ({ tone with envDivider := 1 }).envDivider ≠ 0) := by decide

/-- FrameRunsTheLinearCounter: the flag set, and clear with the counter at 0. -/
theorem test_witness_linear :
    (ramp.identity = .triangle ∧ ramp.linearCounterReloadFlag = true) ∧
    ((node .triangle).identity = .triangle ∧ (node .triangle).linearCounterReloadFlag = false ∧
      (node .triangle).linearCounter = 0) := by decide

/-- FrameRecomputesTheVolume: the counter runs out on this edge; a channel with an envelope; a Triangle. -/
theorem test_witness_volume :
    (after .frame { hiss with frameParity := true }).lengthCounter = 0 ∧
    ((after .frame hiss).lengthCounter ≠ 0 ∧ hiss.identity ≠ .triangle) ∧
    ((after .frame ramp).lengthCounter ≠ 0 ∧ ramp.identity = .triangle) := by decide

/-- FrameRunsTheSweepUnit: no half-frame edge; the flag set; a count-down; a commit at the top of the range
(target 0x7FF) and at the bottom (period 8); the target one above the range, and -1 on Pulse1. -/
theorem test_witness_sweep :
    (tone.identity = .pulse1 ∧ halfFrameEdge tone.frameParity = false) ∧
    halfFrameEdge ({ tone with frameParity := true }).frameParity = true ∧
    (tone.sweepReloadFlag = false ∧ tone.sweepDividerCounter ≠ 0) ∧
    (0x555 : Nat) + 0x555 / 2 ^ 1 = 0x7FF ∧ (0x400 : Nat) + 0x400 / 2 ^ 0 = 0x800 ∧
    (let s := { tone with frameParity := true, sweepDividerCounter := 0, sweepEnabled := true, sweepShift := 1,
                          period := 0x555, sweepReloadFlag := true }
     (after .frame s).period = 0x7FF ∧ (after .frame s).sweepReloadFlag = false) ∧
    (let s := { tone with frameParity := true, sweepDividerCounter := 0, sweepEnabled := true, period := 0x400,
                          clkRate := 0x400 }
     (after .frame s).period = 0x400) ∧
    (let s := { tone with frameParity := true, sweepDividerCounter := 0, sweepEnabled := true, sweepNegate := true }
     s.period = 8 ∧ (after .frame s).period = 8 ∧ (after .frame { s with identity := .pulse2 }).period = 0) := by
  decide

/-- FrameStopsAMutedNoiseClock: a muting edge and another. -/
theorem test_witness_noise_stop :
    hiss.identity = .noise ∧ (after .frame { hiss with frameParity := true }).volume = 0 ∧
    (after .frame hiss).volume ≠ 0 := by decide

/-- FrameWritesOnlyTheStepsFields: `tone`, `ramp`, `hiss`. -/
theorem test_witness_frame_frame :
    (tone.identity = .pulse1 ∨ tone.identity = .pulse2) ∧ ramp.identity = .triangle ∧ hiss.identity = .noise := by
  decide

/-- The SAMPLE statements: a running node of each kind, the gate open and closed, a stopped clock. -/
theorem test_witness_sample :
    (tone.clkRunning = true ∧ (tone.identity = .pulse1 ∨ tone.identity = .pulse2) ∧ tone.volume ≠ 0) ∧
    (ramp.clkRunning = true ∧ ramp.identity = .triangle ∧ ramp.linearCounter ≠ 0 ∧ ramp.lengthCounter ≠ 0 ∧
      0 < ramp.linearCounter.toNat ∧ 0 < ramp.lengthCounter.toNat) ∧
    (({ ramp with linearCounter := 0 }).clkRunning = true ∧ ({ ramp with linearCounter := 0 }).linearCounter = 0) ∧
    (hiss.clkRunning = true ∧ hiss.identity = .noise) ∧ (node .pulse1).clkRunning = false := by decide

/-- The two period statements over runs: a ticking script on a node that has had its reset. -/
theorem test_witness_periods :
    (tone.booted = true ∧ ({ tone with script := List.replicate 16 Event.sample ++ [Event.frame] }).script =
      List.replicate 16 Event.sample ++ [Event.frame]) ∧
    (ramp.booted = true ∧ ({ ramp with script := List.replicate 32 .sample }).script =
      List.replicate 32 Event.sample ++ []) := by decide

/-- R191, R132: one trace value for each SAMPLE that occurs: two ticks up the ramp with a FRAME between, the level
held with the gate closed, and none from a stopped clock. -/
theorem test_observe_one_value_per_sample :
    (observeRun { ramp with triStep := 3, script := [.sample, .frame, .sample] }).dac = [4, 5] ∧
    (observeRun { ramp with linearCounter := 0, script := [.sample] }).dac = [15] ∧
    (observeRun { ramp with clkRunning := false, script := [.sample, .sample] }).dac = [] := by decide

/-- The two periods of the LFSR: the seed in each mode. -/
theorem test_witness_lfsr :
    (let s := { hiss with shiftRegister := 1, shiftMode := true }
     s.clkRunning = true ∧ s.identity = .noise ∧ s.shiftMode = true ∧ s.shiftRegister = 1) ∧
    (let s := { hiss with shiftRegister := 1 }
     s.clkRunning = true ∧ s.identity = .noise ∧ s.shiftMode = false ∧ s.shiftRegister = 1) := by decide

/-- The invariants that every step keeps, and SafeStatesRunSafely: `tone` with its pair about to be popped. -/
theorem test_witness_invariants :
    Safe { tone with script := [.pop, .frame] } ∧
    ∃ t, step { tone with script := [.pop, .frame] } = .next t ∧ t.lengthCounter = 254 ∧ t.count = 0 := by
  obtain ⟨a, b, c, tab, d, e, f, g, h, i⟩ := test_tone_safe
  refine ⟨⟨⟨a.addrWf, a.dataWf, a.rdBound, a.countBound, a.wrAfter⟩, b, c, ⟨tab.entry1, tab.range⟩, ⟨d.rate, d.pulseRuns, d.triangleRuns⟩,
    e, f, ⟨g.length, g.duty, g.dividerPeriod, g.dividerCounter, g.noisePeriod, g.noiseRate, g.lfsr⟩,
    ⟨h.pulseOnly, h.triangleOnly, h.noiseOnly, h.noEnvelope⟩, ⟨i.unknown, i.overflow⟩⟩, _, rfl, rfl, rfl⟩

/-- OnlyResetChangesTheIdentity: before the reset, a step that changes it and one that does nothing; after it, a
second RESET. -/
theorem test_witness_identity_changes :
    (∃ t, step { tone with booted := false, script := [.reset 3] } = .next t ∧ t.identity ≠ tone.identity) ∧
    (∃ t, step { tone with booted := false, script := [.frame] } = .next t) ∧
    (tone.booted = true ∧ ({ tone with script := [.reset 3] }).script = .reset 3 :: [] ∧
      ∃ t, step { tone with script := [.reset 3] } = .next t) :=
  ⟨⟨_, rfl, by decide⟩, ⟨_, rfl⟩, rfl, rfl, _, rfl⟩

/-- LengthRisesOnlyByReg3: a step that makes the counter greater. -/
theorem test_witness_length_rises :
    ∃ t, step { tone with script := [.pop] } = .next t ∧ tone.lengthCounter.toNat < t.lengthCounter.toNat :=
  ⟨_, rfl, by decide⟩

/-- OnlyReg2StartsANoiseClock: a step that starts it. -/
theorem test_witness_noise_clock_starts :
    let s := { node .noise with qAddr := [(0, 0x0E)], qData := [(0, 0x05)], wr := 1, count := 1, script := [.pop] }
    s.identity = .noise ∧ s.clkRunning = false ∧ ∃ t, step s = .next t ∧ t.clkRunning = true := ⟨rfl, rfl, _, rfl, rfl⟩

/-- DacChangesOnlyInASample: a SAMPLE and a RESET that change it. -/
theorem test_witness_dac_changes :
    (∃ t, step { ramp with script := [.sample, .sample], triStep := 3 } = .next t ∧ t.dacOut ≠ ramp.dacOut) ∧
    (∃ t, step { ramp with booted := false, script := [.reset 0] } = .next t ∧ t.dacOut ≠ ramp.dacOut) :=
  ⟨⟨_, rfl, by decide⟩, _, rfl, by decide⟩

/-- EnabledGatesNothing and NotesFeedNothingBack: an instruction that completes. -/
theorem test_witness_completes : ∃ t, exec .frame tone = .next t := ⟨_, rfl⟩

end Sys2Proof.Tests
end

section
/-! PROOFS. The statements of 00_scope.md section 5: which event a step runs (R6, R7), and what of a node is
fixed for its life. First what a step answers, one equation for each thing it can do; then the four fields that
say which node this is, which no event but a `RESET` writes. -/

namespace Sys2Proof.Proofs

open Sys2Proof.Machine

/-! ### What a step answers -/

/-- With no event to come a step does nothing (R191, log 3). -/
theorem step_of_script_nil {s : State} (hs : s.script = []) : step s = .next s := by
  simp [step, State.nextEvent, hs]

/-- A step asks whether the event at the head of the script is enabled, and takes it off in both cases. -/
theorem step_of_script_cons {s : State} {e : Event} {es : List Event} (hs : s.script = e :: es) :
    step s = if s.enables e = true then exec e.toInstr { s with script := es }
      else .next { s with script := es } := by
  simp [step, State.nextEvent, State.advance, hs]

/-- Taking the next event off an empty script leaves the state as it is. -/
theorem advance_of_nextEvent_none {s : State} (hn : s.nextEvent = none) : s.advance = s := by
  have hs : s.script = [] := List.head?_eq_none_iff.1 hn
  simp [State.advance, State.ext_iff, hs]

/-- Settles O6: the "when enabled" column of R7 is `State.enables`, by the event. -/
theorem stepRunsTheNextEvent : Obligations.StepRunsTheNextEvent := by
  unfold Obligations.StepRunsTheNextEvent
  refine fun s => ⟨step_of_script_nil, fun e es hs enabled henabled => ?_⟩
  have hiff : enabled ↔ s.enables e = true := by
    subst henabled
    cases e <;> simp [State.enables]
  rw [hiff, step_of_script_cons hs]
  exact ⟨fun h => if_pos h, fun h => if_neg h⟩

/-! ### What is fixed for the life of a node -/

/-- `t` is the same node as `s`: its identity (R12), its two parameters (log 2, log 11), and whether it has had
its reset (log 26). -/
structure SameNode (s t : State) : Prop where
  identity : t.identity = s.identity
  fifoLog2 : t.fifoLog2 = s.fifoLog2
  lengthTable : t.lengthTable = s.lengthTable
  booted : t.booted = s.booted

theorem SameNode.refl (s : State) : SameNode s s := ⟨rfl, rfl, rfl, rfl⟩

theorem SameNode.trans {s t u : State} (hst : SameNode s t) (htu : SameNode t u) : SameNode s u :=
  ⟨htu.identity.trans hst.identity, htu.fifoLog2.trans hst.fifoLog2, htu.lengthTable.trans hst.lengthTable,
    htu.booted.trans hst.booted⟩

/-- `PUSH` writes the ring and the notes alone (R141, R142). -/
theorem sameNode_fifoPush (s : State) (a v : Byte) : SameNode s (fifoPush a v s) :=
  fifoPush_keeps (SameNode s) (fun _ _ h => h.trans ⟨rfl, rfl, rfl, rfl⟩)
    (fun _ h => h.trans ⟨rfl, rfl, rfl, rfl⟩) (fun _ _ _ h => h.trans ⟨rfl, rfl, rfl, rfl⟩) s a v (.refl s)

/-- No register command of any identity writes what a reset binds (R101). -/
theorem sameNode_command {i : Instr} {id : Identity} {s t : State} (hi : i.identity = some id)
    (h : exec i s = .next t) : SameNode s t := by
  cases i with
  | reset _ | push _ _ | pop | frame | sample => cases hi
  | _ => cases h; exact ⟨rfl, rfl, rfl, rfl⟩

/-- Neither the toggle nor any of the six steps of a frame edge writes them (R110). -/
theorem sameNode_frameEdge (s : State) : SameNode s (frameEdge s) := by
  refine frameEdge_keeps (SameNode s) ?_ ?_ ?_ ?_ ?_ ?_ ?_ s (.refl s) <;>
    exact fun u h => h.trans (by constructor <;> simp)

/-- A tick writes the generator's own register and the DAC (R130). -/
theorem sameNode_sampleTick (s : State) : SameNode s (sampleTick s) := by
  have htriangle : SameNode s (triangleTick s) := by
    unfold triangleTick
    split <;> exact ⟨rfl, rfl, rfl, rfl⟩
  unfold sampleTick
  cases s.identity with
  | triangle => exact htriangle
  | pulse1 | pulse2 | noise => exact ⟨rfl, rfl, rfl, rfl⟩

/-- After its reset a node stays what it is in every step: the one operation that binds an identity is not
enabled again (R7, R182). -/
theorem sameNode_step {s t : State} (hb : s.booted = true) (h : step s = .next t) : SameNode s t := by
  refine step_keeps (SameNode s) ?hadvance ?hreset ?hpush ?hdrop ?hcommand ?hframe ?hsample s t (.refl s) h
  case hadvance => exact fun u hu => hu.trans ⟨rfl, rfl, rfl, rfl⟩
  case hreset => exact fun u cfg hu hu' => absurd (hu.booted.trans hb) (by simp [hu'])
  case hpush => exact fun u a v hu => hu.trans (sameNode_fifoPush u a v)
  case hdrop => exact fun u hu _ => hu.trans ⟨rfl, rfl, rfl, rfl⟩
  case hcommand => exact fun u i v hu hi hv => hu.trans (sameNode_command hi hv)
  case hframe => exact fun u hu => hu.trans (sameNode_frameEdge u)
  case hsample => exact fun u hu _ => hu.trans (sameNode_sampleTick u)

/-- Before its reset a node has one enabled event, `RESET`, which boots it; a step with any other or none takes
it off the script (R7, R180, log 26). -/
theorem step_before_reset {s t : State} (hb : s.booted = false) (h : step s = .next t) :
    t = s.advance ∨ ∃ (cfg : BitVec 2) (es : List Event), s.script = .reset cfg :: es ∧
      t = State.boot cfg s.fifoLog2 s.lengthTable es := by
  obtain ⟨hn, rfl⟩ | ⟨e, -, -, rfl⟩ | ⟨e, hn, he, h⟩ := step_cases h
  · exact .inl (advance_of_nextEvent_none hn).symm
  · exact .inl rfl
  · obtain ⟨es, hs⟩ := nextEvent_eq_some.1 hn
    cases e with
    | reset cfg =>
      have ht : t = State.boot cfg s.fifoLog2 s.lengthTable s.script.tail := by injection h with h; exact h.symm
      exact .inr ⟨cfg, es, hs, by rw [ht, hs, List.tail_cons]⟩
    | push _ _ | pop | frame | sample => simp [State.enables, hb] at he

/-- A `RESET` next on a node that has had its reset is spent with no effect (R182, log 26). -/
theorem step_second_reset {s : State} {cfg : BitVec 2} {es : List Event} (hb : s.booted = true)
    (hs : s.script = .reset cfg :: es) : step s = .next { s with script := es } :=
  (step_of_script_cons hs).trans (if_neg (by simp [State.enables, hb]))

/-- Settles O55: a node that has had its reset stays the same node (`sameNode_step`); on one that has had none
`step_before_reset` leaves two outcomes, and both keep the capacity and the table. -/
theorem onlyResetChangesTheIdentity : Obligations.OnlyResetChangesTheIdentity := by
  unfold Obligations.OnlyResetChangesTheIdentity
  intro s t h
  obtain hb | hb := Bool.eq_false_or_eq_true s.booted
  · obtain ⟨hidentity, hfifo, htable, hbooted⟩ := sameNode_step hb h
    refine ⟨hfifo, htable, fun _ => ⟨hbooted.trans hb, hidentity⟩, fun cfg es _ hs => ?_,
      fun hb' => nomatch hb'.symm.trans hb⟩
    injection h.symm.trans (step_second_reset hb hs)
  · have hnot : s.booted ≠ true := by simp [hb]
    obtain rfl | ⟨cfg, es, hs, rfl⟩ := step_before_reset hb h
    · exact ⟨rfl, rfl, fun hb' => absurd hb' hnot, fun _ _ hb' => absurd hb' hnot, fun _ => .inl rfl⟩
    · exact ⟨rfl, rfl, fun hb' => absurd hb' hnot, fun _ _ hb' => absurd hb' hnot,
        fun _ => .inr ⟨cfg, es, hs, rfl, rfl⟩⟩

end Sys2Proof.Proofs
end

section
/-! PROOFS. The rules that the invariants of R32 share: which part of the state the ingest of pairs writes and which a
tick writes, what a `POP` and a `SAMPLE` answer, and `step_keeps` for a property that the ingest does not see. -/

namespace Sys2Proof.Proofs

open Sys2Proof.Machine Sys2Proof.Safety

/-- The Channel State of `s` (R11) with the FIFO, the notes and the script of `q`. -/
def withIngest (q s : State) : State :=
  { s with
    qAddr := q.qAddr, qData := q.qData, wr := q.wr, rd := q.rd, count := q.count
    unknownCount := q.unknownCount, overflowCount := q.overflowCount, notes := q.notes, script := q.script }

/-- `PUSH` leaves the Channel State alone (R141, R142). -/
theorem fifoPush_eq_withIngest (a v : Byte) (s : State) : fifoPush a v s = withIngest (fifoPush a v s) s := by
  refine fifoPush_keeps (fun u => u = withIngest u s) ?hnote ?hdrop ?happend s a v rfl
  case hnote => exact fun u n hu => by rw [hu]; rfl
  case hdrop => exact fun u hu => by rw [hu]; rfl
  case happend => exact fun u a v hu => by rw [hu]; rfl

/-- A property that the ingest does not see is kept by every step if the one reset, the commands of the node's own
identity, a frame edge and a tick of a running clock keep it. A command finds the length table that the step began
with: no event writes it (R46). -/
theorem step_keeps_of_withIngest (Q : State → Prop) {s t : State} (hingest : ∀ q u, Q u → Q (withIngest q u))
    (hreset : ∀ u cfg, Q u → u.booted = false → Q (State.boot cfg u.fifoLog2 u.lengthTable u.script))
    (hcommand : ∀ u i v, u.lengthTable = s.lengthTable → Q u → i.identity = some u.identity →
      exec i u = .next v → Q v)
    (hframe : ∀ u, Q u → Q (frameEdge u)) (hsample : ∀ u, Q u → u.clkRunning = true → Q (sampleTick u))
    (hq : Q s) (h : step s = .next t) : Q t := by
  refine (step_keeps (fun u => u.lengthTable = s.lengthTable ∧ Q u) ?_ ?_ ?_ ?_ ?_ ?_ ?_ s t ⟨rfl, hq⟩ h).2
  · exact fun u hu => ⟨hu.1, hingest u.advance u hu.2⟩
  · exact fun u cfg hu hb => ⟨hu.1, hreset u cfg hu.2 hb⟩
  · exact fun u a v hu => ⟨(sameNode_fifoPush u a v).lengthTable.trans hu.1,
      fifoPush_eq_withIngest a v u ▸ hingest _ u hu.2⟩
  · exact fun u hu _ => ⟨hu.1, hingest (dropHead u) u hu.2⟩
  · exact fun u i v hu hi hv => ⟨(sameNode_command hi hv).lengthTable.trans hu.1, hcommand u i v hu.1 hu.2 hi hv⟩
  · exact fun u hu => ⟨(sameNode_frameEdge u).lengthTable.trans hu.1, hframe u hu.2⟩
  · exact fun u hu hc => ⟨(sameNode_sampleTick u).lengthTable.trans hu.1, hsample u hu.2 hc⟩

/-- What a `POP` answers: nothing on an empty FIFO (log 4), else the oldest pair's command (R80, R143). -/
theorem exec_pop_cases {s t : State} (h : exec .pop s = .next t) :
    (s.count = 0 ∧ t = s) ∨
    (s.count ≠ 0 ∧ exec (decodeCommand s.identity s.head.1 s.head.2) (dropHead s) = .next t) := by
  have h : execPop s = .next t := h
  unfold execPop at h
  split at h <;> rename_i hc
  · injection h with h
    exact .inl ⟨hc, h.symm⟩
  · rw [runCommand_eq_exec _ (decodeCommand_identity _ _ _)] at h
    exact .inr ⟨hc, h⟩

/-- What a `SAMPLE` answers: one tick of a running clock, nothing of a stopped one (R130, log 4). -/
theorem exec_sample_cases {s t : State} (h : exec .sample s = .next t) :
    (s.clkRunning = true ∧ t = sampleTick s) ∨ (s.clkRunning ≠ true ∧ t = s) := by
  have h : execSample s = .next t := h
  unfold execSample at h
  split at h <;> rename_i hc <;> injection h with h
  · exact .inl ⟨hc, h.symm⟩
  · exact .inr ⟨hc, h.symm⟩

/-- A tick writes the generators' registers and the DAC (R130 to R133). -/
theorem sampleTick_frame (s : State) :
    sampleTick s = { s with
      pulseStep := (sampleTick s).pulseStep, triStep := (sampleTick s).triStep,
      shiftRegister := (sampleTick s).shiftRegister, dacOut := (sampleTick s).dacOut } := by
  have htriangle : triangleTick s = { s with
      pulseStep := (triangleTick s).pulseStep, triStep := (triangleTick s).triStep,
      shiftRegister := (triangleTick s).shiftRegister, dacOut := (triangleTick s).dacOut } := by
    unfold triangleTick
    split <;> rfl
  unfold sampleTick
  split
  · rfl
  · rfl
  · exact htriangle
  · rfl

end Sys2Proof.Proofs
end

section
/-! PROOFS. R32 items 3 and 1: a length counter of 0 implies a volume of 0, and the LFSR is never 0. -/

namespace Sys2Proof.Proofs

open Sys2Proof.Machine Sys2Proof.Safety

/-- A length load establishes the implication: no entry of the table is 0 (R46, D5). -/
theorem lengthEntry_ne_zero {s : State} (htable : TableWf s) (l : BitVec 5) : s.lengthEntry l ≠ 0 := by
  intro h
  have hrange := (lengthEntry_range s htable l).1
  rw [h] at hrange
  exact absurd hrange (by decide)

theorem muteWf_command {i : Instr} {s t : State} (htable : TableWf s) (hmute : MuteWf s)
    (hi : i.identity = some s.identity) (h : exec i s = .next t) : MuteWf t := by
  cases i with
  | reset _ | push _ _ | pop | frame | sample => cases hi
  | p1Reg3 l _ | p2Reg3 l _ | triReg3 l _ | noiReg3 l _ =>
    cases h
    exact fun hzero => absurd hzero (lengthEntry_ne_zero htable l)
  | _ => cases h; exact hmute

/-- Step 3 establishes the implication, whatever held before (R118). -/
theorem muteWf_stepVolume (s : State) : MuteWf (stepVolume s) := by
  intro h
  rw [stepVolume_lengthCounter] at h
  simp [stepVolume, h]

/-- A frame edge ends with step 3 and step 4, and step 4 writes the run bit alone (R110). -/
theorem muteWf_frameEdge (s : State) : MuteWf (frameEdge s) := by
  have hquarter : ∀ u, MuteWf (quarterFrameSteps u) := by
    intro u
    unfold quarterFrameSteps
    rw [stepNoiseClock_frame]
    exact muteWf_stepVolume _
  unfold frameEdge
  split <;> exact hquarter _

/-- Settles O47: a Reg3 loads no 0, step 3 of every frame edge mutes a length counter of 0, and nothing else
writes either field. -/
theorem stepKeepsTheMuteImplication : Obligations.StepKeepsTheMuteImplication := by
  unfold Obligations.StepKeepsTheMuteImplication
  intro s t htable
  refine step_keeps_of_withIngest MuteWf ?hingest ?hreset ?hcommand ?hframe ?hsample
  case hingest => exact fun _ _ hu => hu
  case hreset => exact fun _ _ _ _ _ => rfl
  case hcommand => exact fun u i v htab hu hi hv => muteWf_command (tableWf_congr htab htable) hu hi hv
  case hframe => exact fun u _ => muteWf_frameEdge u
  case hsample => exact fun u hu _ => by rw [sampleTick_frame]; exact hu

/-! ### R32 item 1: the LFSR is never 0 -/

/-- The feedback of a register that the halving would empty is 1: only bit 0 is set then (R133). -/
theorem lfsrShift_ne_zero (mode : Bool) {r : BitVec 15} (hr : r ≠ 0) : lfsrShift (lfsrFeedback mode r) r ≠ 0 := by
  have hset : lfsrShift true r ≠ 0 := by
    intro h
    have hbit := congrArg (·.getLsbD 14) h
    simp [lfsrShift] at hbit
  by_cases hone : r = 1
  · subst hone
    cases mode <;> decide
  · cases lfsrFeedback mode r with
    | true => exact hset
    | false =>
      have hlarge : 2 ≤ r.toNat := by
        have h0 : r.toNat ≠ 0 := fun h => hr (BitVec.eq_of_toNat_eq h)
        have h1 : r.toNat ≠ 1 := fun h => hone (BitVec.eq_of_toNat_eq h)
        omega
      intro h
      have hhalf : r.toNat / 2 = 0 := by simpa [lfsrShift, Nat.shiftRight_eq_div_pow] using congrArg BitVec.toNat h
      omega

theorem lfsrWf_sampleTick {s : State} (h : LfsrWf s) : LfsrWf (sampleTick s) := by
  have htriangle : LfsrWf (triangleTick s) := by
    unfold triangleTick
    split <;> exact h
  unfold sampleTick
  cases s.identity with
  | pulse1 | pulse2 => exact h
  | triangle => exact htriangle
  | noise => exact lfsrShift_ne_zero s.shiftMode h

theorem lfsrWf_command {i : Instr} {id : Identity} {s t : State} (hlfsr : LfsrWf s) (hi : i.identity = some id)
    (h : exec i s = .next t) : LfsrWf t := by
  cases i with
  | reset _ | push _ _ | pop | frame | sample => cases hi
  | _ => cases h; exact hlfsr

theorem lfsrWf_frameEdge {s : State} (h : LfsrWf s) : LfsrWf (frameEdge s) := by
  refine frameEdge_keeps LfsrWf ?_ ?_ ?_ ?_ ?_ ?_ ?_ s h <;> simp [LfsrWf]

/-- Settles O48: a tick of a Noise node is the one thing that writes the register, and `lfsrShift_ne_zero` says it
writes no 0. No command writes it, in either mode. -/
theorem stepKeepsTheLfsrNonZero : Obligations.StepKeepsTheLfsrNonZero := by
  unfold Obligations.StepKeepsTheLfsrNonZero
  intro s t
  refine step_keeps_of_withIngest LfsrWf ?hingest ?hreset ?hcommand ?hframe ?hsample
  case hingest => exact fun _ _ hu => hu
  case hreset => exact fun _ _ _ _ => by simp [LfsrWf, State.boot]
  case hcommand => exact fun u i v _ hu hi hv => lfsrWf_command hu hi hv
  case hframe => exact fun u hu => lfsrWf_frameEdge hu
  case hsample => exact fun u hu _ => lfsrWf_sampleTick hu

end Sys2Proof.Proofs
end

section
/-! PROOFS. R11, R136: every field stays in its range, and what a Reg0 or Reg1 has loaded does not go back to 0. -/

namespace Sys2Proof.Proofs

open Sys2Proof.Machine Sys2Proof.Safety

/-- DUTY_TABLE, written out (R45). -/
theorem dutyTable_mem (dy : BitVec 2) :
    dutyTable dy = 2 ∨ dutyTable dy = 4 ∨ dutyTable dy = 8 ∨ dutyTable dy = 12 := by revert dy; decide

/-- A sweep divider's period is in 1..8 (R63). -/
theorem dividerPeriodOf_range (p : BitVec 3) : 1 ≤ (dividerPeriodOf p).toNat ∧ (dividerPeriodOf p).toNat ≤ 8 := by
  revert p; decide

/-- A Noise period is a table index (R15). -/
theorem periodOfIndex_lt (x : BitVec 4) : (periodOfIndex x).toNat < 16 := by revert x; decide

/-- A period written on a node that is no Noise node has its width for its range (R11). -/
theorem rangeWf_setPeriod {s : State} (p : Period) (hid : s.identity ≠ .noise) (h : RangeWf s) :
    RangeWf (setPeriod p s) :=
  { h with noisePeriod := fun hn => absurd hn hid, noiseRate := fun hn => absurd hn hid }

/-- A length load takes an entry of the table (R46). -/
theorem rangeWf_loadLength {s : State} (l : BitVec 5) (htable : TableWf s) (h : RangeWf s) :
    RangeWf (loadLength l s) :=
  { h with length := (lengthEntry_range s htable l).2 }

theorem rangeWf_command {i : Instr} {s t : State} (htable : TableWf s) (hrange : RangeWf s)
    (hi : i.identity = some s.identity) (h : exec i s = .next t) : RangeWf t := by
  have hload := fun l => rangeWf_loadLength l htable hrange
  cases i with
  | reset _ | push _ _ | pop | frame | sample => cases hi
  | p1Reg0 dy _ _ _ | p2Reg0 dy _ _ _ => cases h; exact { hrange with duty := .inr (dutyTable_mem dy) }
  | p1Reg1 _ p _ _ | p2Reg1 _ p _ _ =>
    cases h
    exact { hrange with dividerPeriod := (dividerPeriodOf_range p).2 }
  | p1Reg2 _ | p2Reg2 _ | triReg2 _ =>
    cases h
    exact rangeWf_setPeriod _ (by injection hi with hi; simp [← hi]) hrange
  | p1Reg3 l t | p2Reg3 l t | triReg3 l t =>
    cases h
    exact rangeWf_setPeriod _ (by injection hi with hi; simp [← hi]) { hload l with }
  | noiReg2 m _ x =>
    cases h
    exact { hrange with noisePeriod := fun _ => periodOfIndex_lt x, noiseRate := fun _ => periodOfIndex_lt x }
  | noiReg3 l _ => cases h; exact { hload l with }
  | _ => cases h; exact { hrange with }

/-- Part 2 of step 6 counts the divider down or reloads it, and commits a period on a pulse node only (R114). -/
theorem rangeWf_stepSweepDivider {s : State} (hid : s.identity ≠ .noise) (h : RangeWf s) :
    RangeWf (stepSweepDivider s) := by
  have hreload : RangeWf { s with sweepDividerCounter := s.sweepDividerPeriod } :=
    { h with dividerCounter := h.dividerPeriod }
  obtain ⟨hne, he⟩ | ⟨-, -, he⟩ | ⟨-, -, -, he⟩ | ⟨-, -, -, he⟩ := stepSweepDivider_cases s <;> rw [he]
  · have hdown : ∀ x : BitVec 4, x ≠ 0 → x.toNat ≤ 8 → (x - 1).toNat ≤ 8 := by decide
    exact { h with dividerCounter := hdown _ hne h.dividerCounter }
  · exact { hreload with }
  · exact rangeWf_setPeriod _ hid hreload
  · exact hreload

theorem rangeWf_stepSweepReload {s : State} (h : RangeWf s) : RangeWf (stepSweepReload s) := by
  rw [stepSweepReload_eq]
  refine { h with dividerCounter := ?_ }
  split
  · exact h.dividerPeriod
  · exact h.dividerCounter

theorem rangeWf_stepSweep {s : State} (h : RangeWf s) : RangeWf (stepSweep s) := by
  unfold stepSweep
  split <;> rename_i hid
  · exact rangeWf_stepSweepReload (rangeWf_stepSweepDivider (by simp [hid]) h)
  · exact rangeWf_stepSweepReload (rangeWf_stepSweepDivider (by simp [hid]) h)
  · exact h
  · exact h

theorem rangeWf_stepLength {s : State} (h : RangeWf s) : RangeWf (stepLength s) := by
  have hlength : (stepLength s).lengthCounter.toNat ≤ s.lengthCounter.toNat := by
    rw [stepLength_toNat]
    split <;> omega
  have hbound := hlength.trans h.length
  rw [stepLength_eq] at hbound ⊢
  exact { h with length := hbound }

theorem rangeWf_frameEdge {s : State} (h : RangeWf s) : RangeWf (frameEdge s) := by
  refine frameEdge_keeps RangeWf ?htoggle ?hlength ?hsweep ?henvelope ?hlinear ?hvolume ?hclock s h
  case hlength => exact fun _ => rangeWf_stepLength
  case hsweep => exact fun _ => rangeWf_stepSweep
  case htoggle | henvelope | hlinear | hvolume | hclock =>
    exact fun u hu => rangeWf_congr (by simp) (by simp) (by simp) (by simp) (by simp) (by simp) (by simp) (by simp) hu

theorem rangeWf_sampleTick {s : State} (h : RangeWf s) : RangeWf (sampleTick s) := by
  have hlfsr := lfsrWf_sampleTick h.lfsr
  rw [sampleTick_frame]
  exact { h with lfsr := hlfsr }

theorem rangeWf_boot (cfg : BitVec 2) (k : Nat) (table : LengthTable) (es : List Event) :
    RangeWf (State.boot cfg k table es) := by
  constructor <;> simp [State.boot]

theorem rangeWf_step {s t : State} (htable : TableWf s) : RangeWf s → step s = .next t → RangeWf t := by
  refine step_keeps_of_withIngest RangeWf ?hingest ?hreset ?hcommand ?hframe ?hsample
  case hingest => exact fun _ _ hu => { hu with }
  case hreset => exact fun _ cfg _ _ => rangeWf_boot cfg _ _ _
  case hcommand => exact fun u i v htab hu hi hv => rangeWf_command (tableWf_congr htab htable) hu hi hv
  case hframe => exact fun u hu => rangeWf_frameEdge hu
  case hsample => exact fun u hu _ => rangeWf_sampleTick hu

/-- `t` has not lost a duty cycle or a sweep divider's period that `s` had (R11: 0 before the first Reg0 and Reg1
only). -/
structure KeepsLoaded (s t : State) : Prop where
  duty : s.dutyCycle ≠ 0 → t.dutyCycle ≠ 0
  dividerPeriod : s.sweepDividerPeriod ≠ 0 → t.sweepDividerPeriod ≠ 0

theorem KeepsLoaded.of_eq {s t : State} (hd : t.dutyCycle = s.dutyCycle)
    (hp : t.sweepDividerPeriod = s.sweepDividerPeriod) : KeepsLoaded s t := ⟨(hd ▸ ·), (hp ▸ ·)⟩

theorem KeepsLoaded.trans {s t u : State} (hst : KeepsLoaded s t) (htu : KeepsLoaded t u) : KeepsLoaded s u :=
  ⟨fun h => htu.duty (hst.duty h), fun h => htu.dividerPeriod (hst.dividerPeriod h)⟩

/-- Reg0 of a pulse node takes an entry of DUTY_TABLE and Reg1 a period of at least 1; no other command writes
either field. -/
theorem keepsLoaded_command {i : Instr} {id : Identity} {s t : State} (hi : i.identity = some id)
    (h : exec i s = .next t) : KeepsLoaded s t := by
  cases i with
  | reset _ | push _ _ | pop | frame | sample => cases hi
  | p1Reg0 dy _ _ _ | p2Reg0 dy _ _ _ =>
    cases h
    have hne : dutyTable dy ≠ 0 := by obtain h | h | h | h := dutyTable_mem dy <;> simp [h]
    exact ⟨fun _ => hne, fun hp => hp⟩
  | p1Reg1 _ p _ _ | p2Reg1 _ p _ _ =>
    cases h
    have hne : dividerPeriodOf p ≠ 0 := fun hzero => by simpa [hzero] using (dividerPeriodOf_range p).1
    exact ⟨fun hd => hd, fun _ => hne⟩
  | _ => cases h; exact .of_eq rfl rfl

theorem keepsLoaded_frameEdge (s : State) : KeepsLoaded s (frameEdge s) := by
  refine frameEdge_keeps (KeepsLoaded s) ?_ ?_ ?_ ?_ ?_ ?_ ?_ s (.of_eq rfl rfl) <;>
    exact fun u hu => hu.trans (.of_eq (by simp) (by simp))

theorem keepsLoaded_step {s t : State} (hb : s.booted = true) (h : step s = .next t) : KeepsLoaded s t := by
  refine (step_keeps_of_withIngest (fun u => u.booted = true ∧ KeepsLoaded s u)
    ?hingest ?hreset ?hcommand ?hframe ?hsample ⟨hb, .of_eq rfl rfl⟩ h).2
  case hingest => exact fun _ u hu => ⟨hu.1, hu.2.trans (.of_eq rfl rfl)⟩
  case hreset => exact fun u _ hu hnot => absurd hu.1 (by simp [hnot])
  case hcommand =>
    exact fun u i v _ hu hi hv =>
      ⟨(sameNode_command hi hv).booted.trans hu.1, hu.2.trans (keepsLoaded_command hi hv)⟩
  case hframe =>
    exact fun u hu => ⟨(sameNode_frameEdge u).booted.trans hu.1, hu.2.trans (keepsLoaded_frameEdge u)⟩
  case hsample =>
    intro u hu _
    rw [sampleTick_frame]
    exact ⟨hu.1, hu.2.trans (.of_eq rfl rfl)⟩

/-- Settles O50: `rangeWf_step` for the ranges, `keepsLoaded_step` for what does not go back to 0. -/
theorem stepKeepsTheFieldRanges : Obligations.StepKeepsTheFieldRanges := by
  unfold Obligations.StepKeepsTheFieldRanges
  intro s t htable hrange h
  refine ⟨rangeWf_step htable hrange h, fun hb => ?_⟩
  obtain ⟨hduty, hdivider⟩ := keepsLoaded_step hb h
  exact ⟨hduty, hdivider⟩

end Sys2Proof.Proofs
end

section
/-! PROOFS. R31: the fields that an identity does not have keep their reset values. -/

namespace Sys2Proof.Proofs

open Sys2Proof.Machine Sys2Proof.Safety

/-- A command of a node's own identity writes fields that the identity has (R11). -/
theorem identityWf_command {i : Instr} {s t : State} (hfields : IdentityWf s) (hi : i.identity = some s.identity)
    (h : exec i s = .next t) : IdentityWf t := by
  cases i with
  | reset _ | push _ _ | pop | frame | sample => cases hi
  | p1Reg0 _ _ _ _ | p1Reg1 _ _ _ _ | p1Reg2 _ | p1Reg3 _ _ =>
    have hid : s.identity = .pulse1 := (Option.some.inj hi).symm
    cases h
    exact { hfields with
      pulseOnly := fun hn => absurd hid hn.1
      noEnvelope := fun ht => nomatch hid.symm.trans ht }
  | p2Reg0 _ _ _ _ | p2Reg1 _ _ _ _ | p2Reg2 _ | p2Reg3 _ _ =>
    have hid : s.identity = .pulse2 := (Option.some.inj hi).symm
    cases h
    exact { hfields with
      pulseOnly := fun hn => absurd hid hn.2
      noEnvelope := fun ht => nomatch hid.symm.trans ht }
  | triReg0 _ _ | triReg2 _ | triReg3 _ _ =>
    have hid : s.identity = .triangle := (Option.some.inj hi).symm
    cases h
    exact { hfields with triangleOnly := fun hn => absurd hid hn }
  | noiReg0 _ _ _ _ | noiReg2 _ _ _ | noiReg3 _ _ =>
    have hid : s.identity = .noise := (Option.some.inj hi).symm
    cases h
    exact { hfields with
      noiseOnly := fun hn => absurd hid hn
      noEnvelope := fun ht => nomatch hid.symm.trans ht }
  | _ => cases h; exact { hfields with }

/-- Step 6 runs on a pulse node only, and writes the sweep unit, the period with the clock, and the volume
(R114, R115, R120). -/
theorem identityWf_stepSweep {s : State} (h : IdentityWf s) : IdentityWf (stepSweep s) := by
  have hpulse : s.identity = .pulse1 ∨ s.identity = .pulse2 →
      IdentityWf (stepSweepReload (stepSweepDivider s)) := by
    intro hid
    rw [stepSweepReload_eq, stepSweepDivider_frame]
    exact { h with
      pulseOnly := fun hn => (hid.elim hn.1 hn.2).elim
      noEnvelope := fun ht => by simp [show s.identity = .triangle from ht] at hid }
  unfold stepSweep
  split <;> rename_i hid
  · exact hpulse (.inl hid)
  · exact hpulse (.inr hid)
  · exact h
  · exact h

/-- Step 1 runs on the identities that have an envelope (R116, R120). -/
theorem identityWf_stepEnvelope {s : State} (h : IdentityWf s) : IdentityWf (stepEnvelope s) := by
  by_cases ht : s.identity = .triangle
  · have hskip : stepEnvelope s = s := by simp [stepEnvelope, ht]
    rwa [hskip]
  · rw [stepEnvelope_frame]
    exact { h with noEnvelope := fun ht' => absurd ht' ht }

/-- Step 2 runs on the identity that has a linear counter (R117, R120). -/
theorem identityWf_stepLinear {s : State} (h : IdentityWf s) : IdentityWf (stepLinear s) := by
  by_cases ht : s.identity = .triangle
  · rw [stepLinear_frame]
    exact { h with triangleOnly := fun hn => absurd ht hn }
  · unfold stepLinear
    split <;> rename_i hid
    · exact h
    · exact h
    · exact absurd hid ht
    · exact h

/-- Step 3 writes no volume on a Triangle but 0 (R118, D18). -/
theorem identityWf_stepVolume {s : State} (h : IdentityWf s) : IdentityWf (stepVolume s) := by
  have hvolume : s.identity = .triangle → (stepVolume s).volume = 0 := by
    intro ht
    obtain ⟨-, -, -, -, -, hzero⟩ := h.noEnvelope ht
    unfold stepVolume
    split
    · rfl
    · simp [ht, hzero]
  rw [stepVolume_frame]
  refine { h with noEnvelope := fun ht => ?_ }
  obtain ⟨hconst, hvalue, hdivider, hlevel, hflag, -⟩ := h.noEnvelope ht
  exact ⟨hconst, hvalue, hdivider, hlevel, hflag, hvolume ht⟩

theorem identityWf_frameEdge {s : State} (h : IdentityWf s) : IdentityWf (frameEdge s) := by
  refine frameEdge_keeps IdentityWf ?htoggle ?hlength ?hsweep ?henvelope ?hlinear ?hvolume ?hclock s h
  case htoggle => exact fun u hu => { hu with }
  case hlength => exact fun u hu => by rw [stepLength_eq]; exact { hu with }
  case hsweep => exact fun _ => identityWf_stepSweep
  case henvelope => exact fun _ => identityWf_stepEnvelope
  case hlinear => exact fun _ => identityWf_stepLinear
  case hvolume => exact fun _ => identityWf_stepVolume
  case hclock => exact fun u hu => by rw [stepNoiseClock_frame]; exact { hu with }

/-- A tick advances the register of the node's own generator (R130). -/
theorem identityWf_sampleTick {s : State} (h : IdentityWf s) : IdentityWf (sampleTick s) := by
  unfold sampleTick
  split <;> rename_i hid
  · exact { h with pulseOnly := fun hn => absurd hid hn.1 }
  · exact { h with pulseOnly := fun hn => absurd hid hn.2 }
  · unfold triangleTick
    split
    · exact { h with triangleOnly := fun hn => absurd hid hn }
    · exact h
  · exact { h with noiseOnly := fun hn => absurd hid hn }

theorem identityWf_boot (cfg : BitVec 2) (k : Nat) (table : LengthTable) (es : List Event) :
    IdentityWf (State.boot cfg k table es) := by
  constructor <;> simp [State.boot]

/-- Settles O51: each command, each step of the frame edge and each generator writes fields that the identity
has, and step 3 writes a Triangle no volume but 0. -/
theorem stepKeepsTheFieldsOfOtherIdentities : Obligations.StepKeepsTheFieldsOfOtherIdentities := by
  unfold Obligations.StepKeepsTheFieldsOfOtherIdentities
  intro s t
  refine step_keeps_of_withIngest IdentityWf ?hingest ?hreset ?hcommand ?hframe ?hsample
  case hingest => exact fun _ _ hu => { hu with }
  case hreset => exact fun _ cfg _ _ => identityWf_boot cfg _ _ _
  case hcommand => exact fun u i v _ hu hi hv => identityWf_command hu hi hv
  case hframe => exact fun u hu => identityWf_frameEdge hu
  case hsample => exact fun u hu _ => identityWf_sampleTick hu

end Sys2Proof.Proofs
end

section
/-! PROOFS. R153, R154, R161: the clock equation and the note counts, step by step. -/

namespace Sys2Proof.Proofs

open Sys2Proof.Machine Sys2Proof.Safety

/-- Every command that writes the period reprograms the clock with it (R100); Noise has no minimum. -/
theorem clockWf_command {i : Instr} {s t : State} (hclock : ClockWf s) (hi : i.identity = some s.identity)
    (h : exec i s = .next t) : ClockWf t := by
  cases i with
  | reset _ | push _ _ | pop | frame | sample => cases hi
  | p1Reg2 _ | p2Reg2 _ | triReg2 _ | p1Reg3 _ _ | p2Reg3 _ _ | triReg3 _ _ => cases h; exact clockWf_setPeriod _ _
  | noiReg2 m _ x =>
    have hid : s.identity = .noise := (Option.some.inj hi).symm
    cases h
    exact ⟨rfl, fun hp => by simp [hid] at hp, fun ht => by simp [hid] at ht⟩
  | _ => cases h; exact { hclock with }

/-- The sweep unit writes the period through the reprogram or not at all (R114). -/
theorem clockWf_stepSweepDivider {s : State} (h : ClockWf s) : ClockWf (stepSweepDivider s) := by
  obtain ⟨-, he⟩ | ⟨-, -, he⟩ | ⟨-, -, -, he⟩ | ⟨-, -, -, he⟩ := stepSweepDivider_cases s <;> rw [he]
  · exact { h with }
  · exact { h with }
  · exact clockWf_setPeriod _ _
  · exact { h with }

theorem clockWf_stepSweep {s : State} (h : ClockWf s) : ClockWf (stepSweep s) := by
  have hpulse : ClockWf (stepSweepReload (stepSweepDivider s)) := by
    rw [stepSweepReload_eq]
    exact { clockWf_stepSweepDivider h with }
  unfold stepSweep
  split
  · exact hpulse
  · exact hpulse
  · exact h
  · exact h

/-- Step 4 stops the clock on Noise only, where the equation says nothing of the run bit (R119). -/
theorem clockWf_stepNoiseClock {s : State} (h : ClockWf s) : ClockWf (stepNoiseClock s) := by
  unfold stepNoiseClock
  split <;> rename_i hid
  · exact h
  · exact h
  · exact h
  · split
    · exact { h with
        pulseRuns := fun hp => by simp [hid] at hp
        triangleRuns := fun ht => by simp [hid] at ht }
    · exact h

theorem clockWf_frameEdge {s : State} (h : ClockWf s) : ClockWf (frameEdge s) := by
  refine frameEdge_keeps ClockWf ?htoggle ?hlength ?hsweep ?henvelope ?hlinear ?hvolume ?hclock s h
  case htoggle | hlength | henvelope | hlinear | hvolume =>
    exact fun u hu => clockWf_congr (by simp) (by simp) (by simp) (by simp) hu
  case hsweep => exact fun _ => clockWf_stepSweep
  case hclock => exact fun _ => clockWf_stepNoiseClock

theorem clockWf_boot (cfg : BitVec 2) (k : Nat) (table : LengthTable) (es : List Event) :
    ClockWf (State.boot cfg k table es) := ⟨rfl, fun _ => rfl, fun _ => rfl⟩

theorem clockWf_step {s t : State} : ClockWf s → step s = .next t → ClockWf t := by
  refine step_keeps_of_withIngest ClockWf ?hingest ?hreset ?hcommand ?hframe ?hsample
  case hingest => exact fun _ _ hu => { hu with }
  case hreset => exact fun _ cfg _ _ => clockWf_boot cfg _ _ _
  case hcommand => exact fun u i v _ hu hi hv => clockWf_command hu hi hv
  case hframe => exact fun u hu => clockWf_frameEdge hu
  case hsample => exact fun u hu _ => by rw [sampleTick_frame]; exact { hu with }

/-! ### R161: the note counts -/

/-- The note counts see the trace and its two counters. -/
theorem notesWf_congr {s t : State} (hn : t.notes = s.notes) (hu : t.unknownCount = s.unknownCount)
    (ho : t.overflowCount = s.overflowCount) (h : NotesWf s) : NotesWf t :=
  ⟨by rw [hn, hu]; exact h.unknown, by rw [hn, ho]; exact h.overflow⟩

/-- A note enters the trace and the counter of its code together (R161). -/
theorem notesWf_note {s : State} (n : Note) (h : NotesWf s) : NotesWf (note n s) := by
  constructor <;> cases n <;> simp [noteCode, h.unknown, h.overflow]

theorem notesWf_command {i : Instr} {id : Identity} {s t : State} (hnotes : NotesWf s)
    (hi : i.identity = some id) (h : exec i s = .next t) : NotesWf t := by
  cases i with
  | reset _ | push _ _ | pop | frame | sample => cases hi
  | triReg1 _ | noiReg1 _ | p1Unk _ _ | p2Unk _ _ | triUnk _ _ | noiUnk _ _ => cases h; exact notesWf_note _ hnotes
  | _ => cases h; exact { hnotes with }

theorem notesWf_frameEdge {s : State} (h : NotesWf s) : NotesWf (frameEdge s) := by
  refine frameEdge_keeps NotesWf ?_ ?_ ?_ ?_ ?_ ?_ ?_ s h <;>
    exact fun u hu => notesWf_congr (by simp) (by simp) (by simp) hu

theorem notesWf_step {s t : State} : NotesWf s → step s = .next t → NotesWf t := by
  refine step_keeps NotesWf ?hadvance ?hreset ?hpush ?hdrop ?hcommand ?hframe ?hsample s t
  case hadvance => exact fun _ hu => { hu with }
  case hreset => exact fun _ _ _ _ => ⟨rfl, rfl⟩
  case hpush =>
    exact fifoPush_keeps NotesWf (fun _ n => notesWf_note n) (fun _ hu => { hu with }) (fun _ _ _ hu => { hu with })
  case hdrop => exact fun _ hu _ => { hu with }
  case hcommand => exact fun u i v hu hi hv => notesWf_command hu hi hv
  case hframe => exact fun u hu => notesWf_frameEdge hu
  case hsample => exact fun u hu _ => by rw [sampleTick_frame]; exact { hu with }

end Sys2Proof.Proofs
end

section
/-! PROOFS. R48: the ring stays in order, every occupied slot written and no cell outside the arrays. -/

namespace Sys2Proof.Proofs

open Sys2Proof.Machine Sys2Proof.Safety

/-- The ring with its storage: in order, every occupied slot written, no cell outside the arrays. -/
structure RingWf (s : State) : Prop where
  order : FifoWf s
  occupied : OccupiedWritten s
  bounded : StorageBounded s

/-- The ring sees the two memories, the indices, the count and the capacity. -/
theorem ringWf_congr {s t : State} (ha : t.qAddr = s.qAddr) (hd : t.qData = s.qData) (hw : t.wr = s.wr)
    (hr : t.rd = s.rd) (hc : t.count = s.count) (hk : t.fifoLog2 = s.fifoLog2) (h : RingWf s) : RingWf t := by
  have harray : ∀ q, t.array q = s.array q := fun q => by cases q <;> assumption
  have hcap : t.fifoCapacity = s.fifoCapacity := congrArg (2 ^ ·) hk
  refine ⟨fifoWf_congr ha hd hw hr hc hk h.order, fun n hn q => ?_, fun q c hmem => ?_⟩
  · rw [State.wrap, harray, hr, hcap]
    exact h.occupied n (hc ▸ hn) q
  · rw [hcap]
    exact h.bounded q c (harray q ▸ hmem)

/-- The slot written is occupied after a write, and no other slot is emptied by it. -/
theorem isSome_read_write {m : Memory} {i k : Nat} (b : Byte) (h : k ≠ i → (m.read k).isSome = true) :
    ((m.write i b).read k).isSome = true := by
  by_cases hk : k = i
  · rw [hk, Memory.read_write_same]; rfl
  · rw [Memory.read_write_other m b hk]; exact h hk

theorem ringWf_note {s : State} (n : Note) (h : RingWf s) : RingWf (note n s) :=
  ringWf_congr (s := s) rfl rfl rfl rfl rfl rfl h

/-- The slots left when the oldest pair is taken are occupied slots (R143). -/
theorem ringWf_dropHead {s : State} (h : RingWf s) (hc : s.count ≠ 0) : RingWf (dropHead s) := by
  refine ⟨fifoWf_dropHead s h.order hc, fun n hn q => ?_, h.bounded⟩
  have hslot : (dropHead s).wrap ((dropHead s).rd + n) = s.wrap (s.rd + (n + 1)) := by
    rw [dropHead_wrap, dropHead_rd, wrap_wrap_add, Nat.add_assoc, Nat.add_comm 1 n]
  rw [hslot]
  exact h.occupied (n + 1) (by rw [dropHead_count] at hn; omega) q

/-- An append to a ring with room occupies the slot it writes in both arrays (R141, R144 b). -/
theorem ringWf_appendPair {s : State} (a v : Byte) (h : RingWf s) (hc : s.count < s.fifoCapacity) :
    RingWf (appendPair a v s) := by
  have hwr : s.wr = s.wrap (s.rd + s.count) := h.order.wrAfter
  have hbound : s.wr < s.fifoCapacity := hwr ▸ wrap_lt s _
  refine ⟨fifoWf_appendPair s a v h.order hc, fun n hn q => ?_, fun q => ?_⟩
  · have hold : s.wrap (s.rd + n) ≠ s.wr → ((s.array q).read (s.wrap (s.rd + n))).isSome = true := by
      intro hne
      have hn' : n ≠ s.count := fun he => hne (by rw [he, ← hwr])
      rw [appendPair_count] at hn
      exact h.occupied n (by omega) q
    cases q <;> exact isSome_read_write _ hold
  · cases q with
    | addr => exact Memory.bounded_write a hbound (h.bounded .addr)
    | data => exact Memory.bounded_write v hbound (h.bounded .data)

theorem ringWf_fifoPush {s : State} (a v : Byte) (h : RingWf s) : RingWf (fifoPush a v s) := by
  have hroom : RingWf (makeRoom s) := by
    have hpos := fifoCapacity_pos s
    obtain ⟨-, he⟩ | ⟨hfull, he⟩ := makeRoom_cases s <;> rw [he]
    · exact h
    · exact ringWf_dropHead (ringWf_note _ h) (by rw [note_count]; omega)
  exact ringWf_appendPair a v hroom (count_makeRoom s h.order)

theorem ringWf_command {i : Instr} {id : Identity} {s t : State} (hring : RingWf s) (hi : i.identity = some id)
    (h : exec i s = .next t) : RingWf t := by
  cases i with
  | reset _ | push _ _ | pop | frame | sample => cases hi
  | _ => cases h; exact ringWf_congr (s := s) rfl rfl rfl rfl rfl rfl hring

theorem ringWf_frameEdge {s : State} (h : RingWf s) : RingWf (frameEdge s) := by
  refine frameEdge_keeps RingWf ?_ ?_ ?_ ?_ ?_ ?_ ?_ s h <;>
    exact fun u hu => ringWf_congr (by simp) (by simp) (by simp) (by simp) (by simp) (by simp) hu

/-- After reset the ring is empty, and so is its storage (R180, log 24). -/
theorem ringWf_boot (cfg : BitVec 2) (k : Nat) (table : LengthTable) (es : List Event) :
    RingWf (State.boot cfg k table es) where
  order := ⟨.nil, .nil, fifoCapacity_pos _, Nat.zero_le _, (Nat.zero_mod _).symm⟩
  occupied := fun _ hn => absurd hn (Nat.not_lt_zero _)
  bounded := fun q c hc => by cases q <;> cases hc

theorem ringWf_step {s t : State} : RingWf s → step s = .next t → RingWf t := by
  refine step_keeps RingWf ?hadvance ?hreset ?hpush ?hdrop ?hcommand ?hframe ?hsample s t
  case hadvance => exact fun u hu => ringWf_congr (s := u) rfl rfl rfl rfl rfl rfl hu
  case hreset => exact fun _ cfg _ _ => ringWf_boot cfg _ _ _
  case hpush => exact fun u a v hu => ringWf_fifoPush a v hu
  case hdrop => exact fun u hu hc => ringWf_dropHead hu hc
  case hcommand => exact fun u i v hu hi hv => ringWf_command hu hi hv
  case hframe => exact fun u hu => ringWf_frameEdge hu
  case hsample =>
    intro u hu _
    rw [sampleTick_frame]
    exact ringWf_congr (s := u) rfl rfl rfl rfl rfl rfl hu

end Sys2Proof.Proofs
end

section
/-! PROOFS. R32: all invariants together, in one step and so in every run. -/

namespace Sys2Proof.Proofs

open Sys2Proof.Machine Sys2Proof.Safety

/-- The length table's constraints are kept: no event writes the table (R46). -/
theorem tableWf_step {s t : State} (htable : TableWf s) (h : step s = .next t) : TableWf t := by
  obtain ⟨-, htab, -⟩ := onlyResetChangesTheIdentity s t h
  exact tableWf_congr htab htable

theorem safe_step {s t : State} (hsafe : Safe s) (h : step s = .next t) : Safe t := by
  have hring := ringWf_step ⟨hsafe.fifo, hsafe.occupied, hsafe.bounded⟩ h
  exact {
    fifo := hring.order
    occupied := hring.occupied
    bounded := hring.bounded
    table := tableWf_step hsafe.table h
    clock := clockWf_step hsafe.clock h
    mute := stepKeepsTheMuteImplication s t hsafe.table hsafe.mute h
    lfsr := stepKeepsTheLfsrNonZero s t hsafe.lfsr h
    range := rangeWf_step hsafe.table hsafe.range h
    fields := stepKeepsTheFieldsOfOtherIdentities s t hsafe.fields h
    notes := notesWf_step hsafe.notes h }

/-- Settles O53, by induction on the number of steps, with `safe_step` for each. -/
theorem safeStatesRunSafely : Obligations.SafeStatesRunSafely := by
  unfold Obligations.SafeStatesRunSafely SafeRun
  intro s k
  induction k generalizing s with
  | zero =>
    intro hsafe t ht
    exact List.mem_singleton.1 ht ▸ hsafe
  | succ k ih =>
    intro hsafe t ht
    unfold runStates at ht
    split at ht
    · rename_i u hu
      obtain rfl | ht := List.mem_cons.1 ht
      · exact hsafe
      · exact ih u (safe_step hsafe hu) t ht
    · exact List.mem_singleton.1 ht ▸ hsafe
    · exact List.mem_singleton.1 ht ▸ hsafe

end Sys2Proof.Proofs
end

section
/-! PROOFS. R32 item 4: what makes the length counter greater. -/

namespace Sys2Proof.Proofs

open Sys2Proof.Machine

/-- A command whose address is not the node's Reg3 leaves the length counter alone (R63). -/
theorem exec_decodeCommand_lengthCounter {id : Identity} {a v : Byte} {s t : State} (ha : classify id a ≠ .reg3)
    (h : exec (decodeCommand id a v) s = .next t) : t.lengthCounter = s.lengthCounter := by
  unfold decodeCommand at h
  cases hclass : classify id a with
  | reg3 => exact absurd hclass ha
  | _ =>
    rw [hclass] at h
    cases id <;> cases h <;> rfl

/-- No edge makes the length counter greater: step 5 is all that writes it, and counts down (R112). -/
theorem frameEdge_lengthCounter_le (s : State) : (frameEdge s).lengthCounter.toNat ≤ s.lengthCounter.toNat := by
  refine frameEdge_keeps (fun u => u.lengthCounter.toNat ≤ s.lengthCounter.toNat)
    ?htoggle ?hlength ?hsweep ?henvelope ?hlinear ?hvolume ?hclock s le_rfl
  case hlength =>
    intro u hu
    rw [stepLength_toNat]
    split <;> omega
  case htoggle | hsweep | henvelope | hlinear | hvolume | hclock => exact fun u hu => by simpa using hu

/-- Of the five events only a `POP` can make the length counter greater. -/
theorem exec_event_lengthCounter_le {e : Event} {s t : State} (he : e ≠ .pop) (h : exec e.toInstr s = .next t) :
    t.lengthCounter.toNat ≤ s.lengthCounter.toNat := by
  cases e with
  | pop => exact absurd rfl he
  | reset cfg => cases h; exact Nat.zero_le _
  | push a v => cases h; rw [fifoPush_eq_withIngest]; exact le_rfl
  | frame => cases h; exact frameEdge_lengthCounter_le s
  | sample =>
    obtain ⟨-, rfl⟩ | ⟨-, rfl⟩ := exec_sample_cases h
    · rw [sampleTick_frame]
    · exact le_rfl

/-- Settles O56: the event was a `POP` (`exec_event_lengthCounter_le`), and of the commands it can run only the
node's Reg3 writes the counter. -/
theorem lengthRisesOnlyByReg3 : Obligations.LengthRisesOnlyByReg3 := by
  unfold Obligations.LengthRisesOnlyByReg3
  intro s t h hlt
  obtain ⟨-, rfl⟩ | ⟨e, -, -, rfl⟩ | ⟨e, hn, -, h⟩ := step_cases h
  · exact absurd hlt (lt_irrefl _)
  · exact absurd hlt (lt_irrefl _)
  obtain ⟨es, hs⟩ := nextEvent_eq_some.1 hn
  obtain rfl : e = .pop := by
    by_contra he
    exact absurd hlt (not_lt.2 (exec_event_lengthCounter_le (s := s.advance) he h))
  obtain ⟨-, rfl⟩ | ⟨hc, h⟩ := exec_pop_cases h
  · exact absurd hlt (lt_irrefl _)
  have hreg3 : classify s.identity (s.memRead .addr s.rd) = .reg3 := by
    by_contra hne
    rw [exec_decodeCommand_lengthCounter hne h] at hlt
    exact lt_irrefl _ hlt
  obtain ⟨-, -, -, hbase, -⟩ := classify_reg_iff s.identity (s.memRead .addr s.rd)
  rw [hbase.1 hreg3]
  exact ⟨es, hs, hc, by cases s.identity <;> rfl⟩

end Sys2Proof.Proofs
end

section
/-! PROOFS. R13, D4: no rule reads `enabled`, so every operation commutes with changing it. -/

namespace Sys2Proof.Proofs

open Sys2Proof.Machine

/-- The same state with another `enabled`. -/
def withEnabled (b : Bool) (s : State) : State := { s with enabled := b }

/-- `f` neither reads nor writes `enabled`. -/
def IgnoresEnabled (f : State → State) : Prop := ∀ (b : Bool) (s : State), f (withEnabled b s) = withEnabled b (f s)

theorem IgnoresEnabled.comp {f g : State → State} (hf : IgnoresEnabled f) (hg : IgnoresEnabled g) :
    IgnoresEnabled (f ∘ g) := fun b s => (congrArg f (hg b s)).trans (hf b (g s))

theorem ignoresEnabled_fifoPush (a v : Byte) : IgnoresEnabled (fifoPush a v) := by
  have hroom : IgnoresEnabled makeRoom := by
    intro b s
    unfold makeRoom
    rw [apply_ite (withEnabled b)]
    rfl
  exact IgnoresEnabled.comp (f := appendPair a v) (fun _ _ => rfl) hroom

theorem ignoresEnabled_stepLength : IgnoresEnabled stepLength := by
  intro b s
  rw [stepLength_eq, stepLength_eq]
  rfl

theorem ignoresEnabled_stepSweepDivider : IgnoresEnabled stepSweepDivider := by
  intro b s
  unfold stepSweepDivider sweepEvaluate
  simp only [apply_ite (withEnabled b)]
  rfl

theorem ignoresEnabled_stepSweepReload : IgnoresEnabled stepSweepReload := by
  intro b s
  rw [stepSweepReload_eq, stepSweepReload_eq]
  rfl

theorem ignoresEnabled_stepSweep : IgnoresEnabled stepSweep := by
  have hpulse := ignoresEnabled_stepSweepReload.comp ignoresEnabled_stepSweepDivider
  intro b s
  have hid : (withEnabled b s).identity = s.identity := rfl
  unfold stepSweep
  rw [hid]
  split
  · exact hpulse b s
  · exact hpulse b s
  · rfl
  · rfl

theorem ignoresEnabled_stepEnvelope : IgnoresEnabled stepEnvelope := by
  intro b s
  unfold stepEnvelope envelopeTick withEnabled
  dsimp only
  repeat' split
  all_goals rfl

theorem ignoresEnabled_stepLinear : IgnoresEnabled stepLinear := by
  intro b s
  unfold stepLinear withEnabled
  dsimp only
  split <;> rfl

theorem ignoresEnabled_stepVolume : IgnoresEnabled stepVolume := by
  intro b s
  unfold stepVolume withEnabled
  dsimp only
  repeat' split
  all_goals rfl

theorem ignoresEnabled_stepNoiseClock : IgnoresEnabled stepNoiseClock := by
  intro b s
  unfold stepNoiseClock withEnabled
  dsimp only
  repeat' split
  all_goals rfl

theorem ignoresEnabled_frameEdge : IgnoresEnabled frameEdge := by
  have hquarter : IgnoresEnabled quarterFrameSteps :=
    ignoresEnabled_stepNoiseClock.comp (ignoresEnabled_stepVolume.comp
      (ignoresEnabled_stepLinear.comp ignoresEnabled_stepEnvelope))
  have hhalf : IgnoresEnabled halfFrameSteps := ignoresEnabled_stepSweep.comp ignoresEnabled_stepLength
  have htoggle : IgnoresEnabled toggleParity := fun _ _ => rfl
  intro b s
  have hparity : (withEnabled b s).frameParity = s.frameParity := rfl
  unfold frameEdge
  rw [hparity]
  split
  · exact hquarter.comp (hhalf.comp htoggle) b s
  · exact hquarter.comp htoggle b s

theorem ignoresEnabled_sampleTick : IgnoresEnabled sampleTick := by
  intro b s
  unfold sampleTick triangleTick withEnabled
  dsimp only
  repeat' split
  all_goals rfl

/-- A command reads no `enabled`, and the enable command alone writes it (R97). -/
theorem exec_command_withEnabled {i : Instr} {id : Identity} {s t : State} (b : Bool) (hi : i.identity = some id)
    (h : exec i s = .next t) : ∃ c, exec i (withEnabled b s) = .next (withEnabled c t) := by
  cases i with
  | reset _ | push _ _ | pop | frame | sample => cases hi
  | p1En v | p2En v | triEn v | noiEn v => cases h; exact ⟨enableOf s.identity v, rfl⟩
  | _ => cases h; exact ⟨b, rfl⟩

/-- Every instruction runs from the state with another `enabled` to what it leaves anyway, with some `enabled`. -/
theorem exec_withEnabled {i : Instr} {s t : State} (b : Bool) (h : exec i s = .next t) :
    ∃ c, exec i (withEnabled b s) = .next (withEnabled c t) := by
  cases i with
  | reset cfg => cases h; exact ⟨false, rfl⟩
  | push a v => cases h; exact ⟨b, congrArg Host.Outcome.next (ignoresEnabled_fifoPush a v b s)⟩
  | frame => cases h; exact ⟨b, congrArg Host.Outcome.next (ignoresEnabled_frameEdge b s)⟩
  | sample =>
    obtain ⟨hc, rfl⟩ | ⟨hc, rfl⟩ := exec_sample_cases h
    · exact ⟨b, (if_pos hc).trans (congrArg Host.Outcome.next (ignoresEnabled_sampleTick b s))⟩
    · exact ⟨b, if_neg hc⟩
  | pop =>
    obtain ⟨hc, rfl⟩ | ⟨hc, h⟩ := exec_pop_cases h
    · exact ⟨b, if_pos hc⟩
    · obtain ⟨c, hrun⟩ := exec_command_withEnabled b (decodeCommand_identity _ _ _) h
      exact ⟨c, (if_neg hc).trans ((runCommand_eq_exec _ (decodeCommand_identity _ _ _)).trans hrun)⟩
  | _ => exact exec_command_withEnabled b rfl h

/-- Settles O59: the other state goes to the same state with some `enabled` (`exec_withEnabled`), and putting
this one's bit back gives this one. -/
theorem enabledGatesNothing : Obligations.EnabledGatesNothing := by
  unfold Obligations.EnabledGatesNothing
  intro i s t b h
  obtain ⟨c, hrun⟩ := exec_withEnabled b h
  exact ⟨withEnabled c t, hrun, rfl⟩

end Sys2Proof.Proofs
end

section
/-! PROOFS. The statements of 20_memory.md: the default length table (R46), what a repeated command leaves (R44), and
the ring's order (R48). -/

namespace Sys2Proof.Proofs

open Sys2Proof.Machine Sys2Proof.Safety

/-! ### R46: the default length table -/

/-- The default table meets the table's constraints (D5). -/
theorem tableWf_reset : TableWf State.reset := ⟨rfl, by decide⟩

/-- Settles O19: the constraints are `tableWf_reset`, and the 32 values are compared one by one. -/
theorem lengthTableEntriesAreInRange : Obligations.LengthTableEntriesAreInRange := by
  unfold Obligations.LengthTableEntriesAreInRange
  exact ⟨by decide, tableWf_reset.entry1, tableWf_reset.range⟩

/-! ### R44: a command run twice -/

/-- Replacing the low byte by the same byte again keeps the period (R43). -/
theorem periodWithLow_idem (t : Byte) (p : Period) : periodWithLow (periodWithLow p t) t = periodWithLow p t := by
  have ht := t.isLt
  refine BitVec.eq_of_toNat_eq ?_
  rw [periodWithLow_toNat, periodWithLow_toNat]
  omega

/-- Replacing the high bits by the same bits again keeps the period (R43). -/
theorem periodWithHigh_idem (t : BitVec 3) (p : Period) :
    periodWithHigh (periodWithHigh p t) t = periodWithHigh p t := by
  refine BitVec.eq_of_toNat_eq ?_
  rw [periodWithHigh_toNat, periodWithHigh_toNat]
  omega

/-- The run bit after a second reprogram with the same rate is the run bit after the first: from the rate alone
(D14), or on Noise the bit kept (R154). -/
theorem runCondition_idem (id : Identity) (r : Period) (b : Bool) :
    runCondition id r (runCondition id r b) = runCondition id r b := by
  cases id <;> rfl

/-- Writing the same period again, with its reprogram, changes nothing (R100). -/
theorem setPeriod_setPeriod (p : Period) (s : State) : setPeriod p (setPeriod p s) = setPeriod p s :=
  congrArg (fun b => { setPeriod p s with clkRunning := b }) (runCondition_idem s.identity p s.clkRunning)

/-- Replacing a part of the period, with the reprogram, a second time changes nothing, if replacing that part again
keeps the period. -/
theorem setPeriod_part_twice (part : Period → Period) (hpart : ∀ p, part (part p) = part p) (s : State) :
    setPeriod (part (setPeriod (part s.period) s).period) (setPeriod (part s.period) s) =
      setPeriod (part s.period) s := by
  rw [setPeriod_period, hpart, setPeriod_setPeriod]

/-- Settles O21: the commands that replace a part of the period are `setPeriod_part_twice`; every other command writes
constants, table entries and bits of its operand, which a second run writes again, or leaves only a note. -/
theorem commandTwiceIsCommandOnce : Obligations.CommandTwiceIsCommandOnce := by
  unfold Obligations.CommandTwiceIsCommandOnce
  intro i id s t hi h
  cases i with
  | reset _ | push _ _ | pop | frame | sample => cases hi
  | p1Reg2 x | p2Reg2 x | triReg2 x =>
    cases h
    exact ⟨_, rfl, setPeriod_part_twice (periodWithLow · x) (periodWithLow_idem x) s⟩
  | p1Reg3 l x | p2Reg3 l x =>
    cases h
    exact ⟨_, rfl, setPeriod_part_twice (periodWithHigh · x) (periodWithHigh_idem x)
      { loadLength l s with envReloadFlag := true }⟩
  | triReg3 l x =>
    cases h
    exact ⟨_, rfl, setPeriod_part_twice (periodWithHigh · x) (periodWithHigh_idem x)
      { loadLength l s with linearCounterReloadFlag := true }⟩
  | _ => cases h; exact ⟨_, rfl, rfl⟩

/-! ### R48: the ring -/

/-- Settles O49: the three parts together are `RingWf`, which every step keeps (`ringWf_step`). -/
theorem stepKeepsTheFifoInOrder : Obligations.StepKeepsTheFifoInOrder := by
  unfold Obligations.StepKeepsTheFifoInOrder
  intro s t horder hoccupied hbounded h
  obtain ⟨horder', hoccupied', hbounded'⟩ := ringWf_step ⟨horder, hoccupied, hbounded⟩ h
  exact ⟨horder', hoccupied', hbounded'⟩

end Sys2Proof.Proofs
end

section
/-! PROOFS. The statements of 30_encoding.md: decoding and encoding undo each other, how many addresses are UNKNOWN,
and which bits of a value byte have no effect. -/

namespace Sys2Proof.Proofs

open Sys2Proof.Machine

/-! ### R60, R62, R70: decoding an encoded command -/

/-- Decoding the two bytes of a well-formed command on a node of its identity gives the command back. The address of
an UNKNOWN row has no other class; every other row has the address that R70 gives it, and its fields are read from where
they were packed. -/
theorem decode_encode {i : Instr} {id : Identity} {bytes : List Byte} (hwf : i.wellFormed = true)
    (hid : i.identity = some id) (hbytes : encode i = some bytes) (rest : List Byte) :
    decode id (bytes ++ rest) = .ok (i, rest) := by
  cases i with
  | reset _ | push _ _ | pop | frame | sample => cases hid
  | p1Unk a v | p2Unk a v | triUnk a v | noiUnk a v =>
    have hclass : classify id a = .unknown := by
      cases hid
      exact (classify_unknown_iff _ a).2 hwf
    cases hid
    cases hbytes
    simp [decode, decodeCommand, hclass]
  | p1Reg2 | p2Reg2 | triReg1 | triReg2 | noiReg1 | p1En | p2En | triEn | noiEn =>
    cases hid
    cases hbytes
    rfl
  | p1Reg0 | p1Reg1 | p1Reg3 | p2Reg0 | p2Reg1 | p2Reg3 | triReg0 | triReg3 | noiReg0 | noiReg2 | noiReg3 =>
    cases hid
    cases hbytes
    simp [decode, decodeCommand, classify, base, enableAddr, regClassOfOffset, fields_packReg0, fields_packReg1,
      fields_packReg3, fields_packTriReg0, fields_packNoiReg2]

/-- Settles O2, row by row (`decode_encode`). -/
theorem decodeOfEncodeIsTheCommand : Obligations.DecodeOfEncodeIsTheCommand := by
  unfold Obligations.DecodeOfEncodeIsTheCommand
  exact fun _ _ _ rest hwf hid hbytes => decode_encode hwf hid hbytes rest

/-! ### R61, R68: every word is a command -/

/-- Only an address of class UNKNOWN decodes to an UNKNOWN row, and that is what the row asks for (R98). -/
theorem decodeCommand_wellFormed (id : Identity) (a v : Byte) : (decodeCommand id a v).wellFormed = true := by
  unfold decodeCommand
  cases hclass : classify id a with
  | unknown =>
    have hunclaimed := (classify_unknown_iff id a).1 hclass
    cases id <;> exact hunclaimed
  | reg0 | reg1 | reg2 | reg3 | enable => cases id <;> rfl

/-- Encoding a decoded command gives the word back: a register class has one address on each identity (R70), and the
fields of the row pack to the value byte, by the `pack` lemmas of Laws/Decode.lean. -/
theorem encode_decodeCommand (id : Identity) (a v : Byte) : encode (decodeCommand id a v) = some [a, v] := by
  obtain ⟨hreg0, hreg1, hreg2, hreg3, henable⟩ := classify_reg_iff id a
  unfold decodeCommand
  cases hclass : classify id a with
  | reg0 => cases id <;> simp [encode, hreg0.1 hclass, base]
  | reg1 => cases id <;> simp [encode, hreg1.1 hclass, base]
  | reg2 => cases id <;> simp [encode, hreg2.1 hclass, base]
  | reg3 => cases id <;> simp [encode, hreg3.1 hclass, base]
  | enable => cases id <;> simp [encode, henable.1 hclass, enableAddr]
  | unknown => cases id <;> rfl

/-- Settles O3: the command is `decodeCommand id a v`, whose identity and bits are kept in every class. -/
theorem everyWordDecodesAndKeepsItsBits : Obligations.EveryWordDecodesAndKeepsItsBits := by
  unfold Obligations.EveryWordDecodesAndKeepsItsBits
  exact fun id a v rest => ⟨decodeCommand id a v, rfl, decodeCommand_wellFormed id a v,
    decodeCommand_identity id a v, encode_decodeCommand id a v⟩

/-! ### R65: the UNKNOWN addresses -/

/-- The addresses that are not UNKNOWN, in rising order: the four of the window and the enable address. -/
theorem known_addresses (id : Identity) :
    (List.range 256).filter (fun n => !decide (classify id (BitVec.ofNat 8 n) = .unknown)) =
      [(base id).toNat, (base id).toNat + 1, (base id).toNat + 2, (base id).toNat + 3, enableAddr.toNat] := by
  cases id <;> decide

/-- Settles O4: all addresses but the five of `known_addresses`. -/
theorem eachIdentityHas251UnknownAddresses : Obligations.EachIdentityHas251UnknownAddresses := by
  unfold Obligations.EachIdentityHas251UnknownAddresses
  intro id
  have hsplit := (List.range 256).length_eq_length_filter_add
    (fun n => decide (classify id (BitVec.ofNat 8 n) = .unknown))
  rw [known_addresses, List.length_range] at hsplit
  simp only [List.length_cons, List.length_nil] at hsplit
  omega

/-! ### R64: bits without a field -/

/-- An enable command reads one bit of its value byte, the one at the node's own position (R97). -/
theorem writeEnable_congr {s : State} {id : Identity} {v w : Byte} (hid : s.identity = id)
    (hbit : v.getLsbD (enableBit id) = w.getLsbD (enableBit id)) : writeEnable v s = writeEnable w s := by
  subst hid
  exact congrArg (fun b => { s with enabled := b }) hbit

/-- Settles O5: the three Noise meanings do not use their ignored operand, and the enable commands all are
`writeEnable`, which `writeEnable_congr` speaks of. -/
theorem ignoredBitsChangeNothing : Obligations.IgnoredBitsChangeNothing := by
  unfold Obligations.IgnoredBitsChangeNothing
  refine ⟨fun _ _ _ _ _ _ => rfl, fun _ _ _ _ _ => rfl, fun _ _ _ _ => rfl, fun s v w => ⟨?_, ?_, ?_, ?_⟩⟩ <;>
    exact fun hid hbit => congrArg Host.Outcome.next (writeEnable_congr hid hbit)

end Sys2Proof.Proofs
end

section
/-! PROOFS. The statements of 40_register_decoder.md: what each register command writes, and that everything else stays.
First the operand functions and the shared writes, each in the numbers of the rules; then the commands, by family.
That a value byte at a fixed address decodes to its row is a computation: the class of the address is a closed fact, and
`bit` and `field` are the extractions of R8 by definition. -/

namespace Sys2Proof.Proofs

open Sys2Proof.Machine

/-! ### The operands and the shared writes in numbers -/

/-- DUTY_TABLE as a list (R45). -/
theorem dutyTable_eq_getD (dy : BitVec 2) : dutyTable dy = [2, 4, 8, 12].getD dy.toNat 0 := by
  revert dy; decide

/-- The sum `v[6:4] + 1` does not wrap in its four bits (R63). -/
theorem dividerPeriodOf_eq_ofNat (p : BitVec 3) : dividerPeriodOf p = BitVec.ofNat 4 (p.toNat + 1) := by
  revert p; decide

theorem periodOfIndex_eq_ofNat (x : BitVec 4) : periodOfIndex x = BitVec.ofNat 11 x.toNat :=
  (BitVec.ofNat_toNat 11 x).symm

/-- On an identity with a minimum the run bit after a reprogram is that of the new period alone (R100, R154). -/
theorem setPeriod_eq_of_minPeriod {s : State} {id : Identity} {m : Nat} (hid : s.identity = id)
    (hmin : minPeriod id = some m) (p : Period) :
    setPeriod p s = { s with period := p, clkRate := p, clkRunning := decide (m ≤ p.toNat) } := by
  have hrun : runCondition s.identity p s.clkRunning = decide (m ≤ p.toNat) := by
    simp [runCondition, hid, hmin]
  exact congrArg (fun b => { s with period := p, clkRate := p, clkRunning := b }) hrun

/-- Reg2 on an identity with a minimum (R85, R91, D14). -/
theorem writePeriodLow_eq_of_minPeriod {s : State} {id : Identity} {m : Nat} (hid : s.identity = id)
    (hmin : minPeriod id = some m) (t : Byte) :
    ∃ p : Period, p.toNat = 256 * (s.period.toNat / 256) + t.toNat ∧
      writePeriodLow t s = { s with period := p, clkRate := p, clkRunning := decide (m ≤ p.toNat) } :=
  ⟨periodWithLow s.period t, periodWithLow_toNat s.period t, setPeriod_eq_of_minPeriod hid hmin _⟩

/-- The period part of a Reg3 on an identity with a minimum, after the other writes of the command have made `u` of the
state (R87, R92). -/
theorem setPeriodWithHigh_eq_of_minPeriod {u : State} {id : Identity} {m : Nat} (hid : u.identity = id)
    (hmin : minPeriod id = some m) (t : BitVec 3) :
    ∃ p : Period, p.toNat = u.period.toNat % 256 + 256 * t.toNat ∧
      setPeriod (periodWithHigh u.period t) u =
        { u with period := p, clkRate := p, clkRunning := decide (m ≤ p.toNat) } :=
  ⟨periodWithHigh u.period t, periodWithHigh_toNat u.period t, setPeriod_eq_of_minPeriod hid hmin _⟩

/-- The shared write of Pulse Reg3 (R87, R88), with the table entry of `lengthEntry_eq`. -/
theorem writePulseReg3_eq_of_minPeriod {s : State} {id : Identity} {m : Nat} (hid : s.identity = id)
    (hmin : minPeriod id = some m) (l : BitVec 5) (t : BitVec 3) :
    ∃ p : Period, p.toNat = s.period.toNat % 256 + 256 * t.toNat ∧
      writePulseReg3 l t s =
        { s with period := p, lengthCounter := s.lengthTable[l.toNat]'l.isLt, envReloadFlag := true, clkRate := p,
                 clkRunning := decide (m ≤ p.toNat) } :=
  setPeriodWithHigh_eq_of_minPeriod (u := { loadLength l s with envReloadFlag := true }) hid hmin t

theorem writePulseReg0_eq (dy : BitVec 2) (h c : Bool) (vol : BitVec 4) (s : State) :
    writePulseReg0 dy h c vol s =
      { s with envReloadValue := vol, envConstFlag := c, lengthCounterHalt := h,
               dutyCycle := [2, 4, 8, 12].getD dy.toNat 0 } :=
  congrArg (fun d => { s with envReloadValue := vol, envConstFlag := c, lengthCounterHalt := h, dutyCycle := d })
    (dutyTable_eq_getD dy)

theorem writePulseReg1_eq (e : Bool) (p : BitVec 3) (n : Bool) (sh : BitVec 3) (s : State) :
    writePulseReg1 e p n sh s =
      { s with sweepEnabled := e, sweepNegate := n, sweepShift := sh, sweepReloadFlag := true,
               sweepDividerPeriod := BitVec.ofNat 4 (p.toNat + 1) } :=
  congrArg (fun d => { s with sweepEnabled := e, sweepNegate := n, sweepShift := sh, sweepReloadFlag := true,
                              sweepDividerPeriod := d }) (dividerPeriodOf_eq_ofNat p)

/-- The enable command takes the bit at the node's own position (R97). -/
theorem writeEnable_eq {s : State} {id : Identity} (hid : s.identity = id) (v : Byte) :
    writeEnable v s = { s with enabled := v.getLsbD (enableBit id) } := by
  subst hid
  rfl

theorem unknownCommand_eq (a v : Byte) (s : State) :
    unknownCommand a v s =
      { s with notes := s.notes ++ [.unknownRegister a v], unknownCount := s.unknownCount + 1 } := rfl

/-! ### R101: what no command writes -/

/-- `s` with the fields of `q` that some register command writes (R81 to R98). -/
def withRegisters (q s : State) : State :=
  { s with
    enabled := q.enabled, period := q.period
    lengthCounter := q.lengthCounter, lengthCounterHalt := q.lengthCounterHalt
    envConstFlag := q.envConstFlag, envReloadValue := q.envReloadValue, envReloadFlag := q.envReloadFlag
    dutyCycle := q.dutyCycle
    sweepEnabled := q.sweepEnabled, sweepNegate := q.sweepNegate, sweepShift := q.sweepShift
    sweepDividerPeriod := q.sweepDividerPeriod, sweepReloadFlag := q.sweepReloadFlag
    linearCounterReloadValue := q.linearCounterReloadValue, linearCounterReloadFlag := q.linearCounterReloadFlag
    shiftMode := q.shiftMode, clkRunning := q.clkRunning, clkRate := q.clkRate
    unknownCount := q.unknownCount, notes := q.notes }

/-- A command writes fields of `withRegisters` alone, row by row. -/
theorem command_eq_withRegisters {i : Instr} {id : Identity} {s t : State} (hi : i.identity = some id)
    (h : exec i s = .next t) : t = withRegisters t s := by
  cases i with
  | reset _ | push _ _ | pop | frame | sample => cases hi
  | _ => cases h; rfl

/-- Settles O20: none of the fields is one that `withRegisters` takes from the new state. -/
theorem noCommandWritesSequencerState : Obligations.NoCommandWritesSequencerState := by
  unfold Obligations.NoCommandWritesSequencerState
  intro i id s t hi h
  rw [command_eq_withRegisters hi h]
  exact ⟨rfl, rfl, rfl, rfl, rfl, rfl, rfl, rfl, rfl, rfl, rfl, rfl, rfl, rfl, rfl, rfl, rfl, rfl, rfl, rfl, rfl⟩

/-! ### Pulse (R81 to R88) and Reg2 -/

/-- Settles O8: both rows are `writePulseReg0`. -/
theorem pulseReg0SetsEnvelopeHaltAndDuty : Obligations.PulseReg0SetsEnvelopeHaltAndDuty := by
  unfold Obligations.PulseReg0SetsEnvelopeHaltAndDuty
  refine ⟨fun v => ⟨rfl, rfl⟩, fun s dy h c vol => ?_⟩
  rw [← writePulseReg0_eq dy h c vol s]
  exact ⟨rfl, rfl⟩

/-- Settles O9: both rows are `writePulseReg1`. -/
theorem pulseReg1SetsTheSweepFields : Obligations.PulseReg1SetsTheSweepFields := by
  unfold Obligations.PulseReg1SetsTheSweepFields
  refine ⟨fun v => ⟨rfl, rfl⟩, fun s e p n sh => ?_⟩
  rw [← writePulseReg1_eq e p n sh s]
  exact ⟨rfl, rfl⟩

/-- Settles O10: the three rows are `writePeriodLow`, with the minimum of each identity. -/
theorem reg2ReplacesTheLowByteAndReprograms : Obligations.Reg2ReplacesTheLowByteAndReprograms := by
  unfold Obligations.Reg2ReplacesTheLowByteAndReprograms
  refine fun s t => ⟨fun hid => ?_, fun hid => ?_, fun hid => ?_⟩ <;>
  · obtain ⟨p, hp, hwrite⟩ := writePeriodLow_eq_of_minPeriod hid rfl t
    exact ⟨p, hp, congrArg Host.Outcome.next hwrite⟩

/-- Settles O11: both rows are `writePulseReg3`. -/
theorem pulseReg3LoadsLengthAndHighPeriod : Obligations.PulseReg3LoadsLengthAndHighPeriod := by
  unfold Obligations.PulseReg3LoadsLengthAndHighPeriod
  refine ⟨fun v => ⟨rfl, rfl⟩, fun s l t => ⟨fun hid => ?_, fun hid => ?_⟩⟩ <;>
  · obtain ⟨p, hp, hwrite⟩ := writePulseReg3_eq_of_minPeriod hid rfl l t
    exact ⟨p, hp, congrArg Host.Outcome.next hwrite⟩

/-! ### Triangle (R89, R92) -/

/-- Settles O12: the class of the window's first address is Reg0, and the row is one record update. -/
theorem triangleReg0SetsHaltAndReloadValue : Obligations.TriangleReg0SetsHaltAndReloadValue := by
  unfold Obligations.TriangleReg0SetsHaltAndReloadValue
  exact ⟨fun v => rfl, fun s h r => rfl⟩

/-- Settles O13: the period part is that of every Reg3, here with the minimum 4. -/
theorem triangleReg3LoadsLengthAndHighPeriod : Obligations.TriangleReg3LoadsLengthAndHighPeriod := by
  unfold Obligations.TriangleReg3LoadsLengthAndHighPeriod
  refine ⟨fun v => rfl, fun s l t hid => ?_⟩
  obtain ⟨p, hp, hwrite⟩ := setPeriodWithHigh_eq_of_minPeriod
    (u := { loadLength l s with linearCounterReloadFlag := true }) hid rfl t
  exact ⟨p, hp, congrArg Host.Outcome.next hwrite⟩

/-! ### Noise (R93 to R96) -/

/-- Settles O14: the row is one record update, in which bits 7:6 do not stand. -/
theorem noiseReg0SetsEnvelopeAndHalt : Obligations.NoiseReg0SetsEnvelopeAndHalt := by
  unfold Obligations.NoiseReg0SetsEnvelopeAndHalt
  exact ⟨fun v => rfl, fun s ign h c vol => rfl⟩

/-- Settles O15: the `ClockRun(1)` after the reprogram overwrites whatever run bit that left (D16). -/
theorem noiseReg2SetsModeAndStartsTheClock : Obligations.NoiseReg2SetsModeAndStartsTheClock := by
  unfold Obligations.NoiseReg2SetsModeAndStartsTheClock
  refine ⟨fun v => rfl, fun s m ign x => ?_⟩
  rw [← periodOfIndex_eq_ofNat]
  rfl

/-- Settles O16: the length load is the table's entry (`lengthEntry_eq`), and the row writes one flag besides. -/
theorem noiseReg3LoadsLengthOnly : Obligations.NoiseReg3LoadsLengthOnly := by
  unfold Obligations.NoiseReg3LoadsLengthOnly
  refine ⟨fun v => rfl, fun s l ign => ?_⟩
  rw [← lengthEntry_eq]
  rfl

/-! ### The commands of every identity (R97, R98) -/

/-- Settles O17: the four rows are `writeEnable`, with the position of each identity. -/
theorem enableTakesTheNodesOwnBit : Obligations.EnableTakesTheNodesOwnBit := by
  unfold Obligations.EnableTakesTheNodesOwnBit
  refine ⟨fun v => ⟨rfl, rfl, rfl, rfl⟩, fun s v => ⟨?_, ?_, ?_, ?_⟩⟩ <;>
    exact fun hid => congrArg Host.Outcome.next (writeEnable_eq hid v)

/-- Settles O18: the six rows are `unknownCommand`, Reg1 of Triangle and of Noise with its own address. -/
theorem unknownCommandsLeaveOnlyANote : Obligations.UnknownCommandsLeaveOnlyANote := by
  unfold Obligations.UnknownCommandsLeaveOnlyANote
  intro s a v
  rw [← unknownCommand_eq a v s, ← unknownCommand_eq 0x09 v s, ← unknownCommand_eq 0x0D v s]
  exact ⟨rfl, rfl, rfl, rfl, rfl, rfl⟩

end Sys2Proof.Proofs
end

section
/-! PROOFS. The statements of 41_frame_sequencer.md: what one `FRAME` does to each field, and that everything else stays.
An edge is its half-frame part (steps 5 and 6, on half-frame edges) and then steps 1 to 4. First which steps run on
which identity and what each writes; then what the two parts of an edge leave in each field; then the statements, each
after the lemmas that only it needs. -/

namespace Sys2Proof.Proofs

open Sys2Proof.Machine

/-! ### Which steps run on which identity (R120), and what they write -/

theorem stepSweep_of_pulse {s : State} (hid : s.identity = .pulse1 ∨ s.identity = .pulse2) :
    stepSweep s = stepSweepReload (stepSweepDivider s) := by
  unfold stepSweep
  obtain h | h := hid <;> rw [h]

theorem stepSweep_of_not_pulse {s : State} (hid : s.identity = .triangle ∨ s.identity = .noise) : stepSweep s = s := by
  unfold stepSweep
  obtain h | h := hid <;> rw [h]

theorem stepEnvelope_of_ne_triangle {s : State} (hid : s.identity ≠ .triangle) : stepEnvelope s = envelopeTick s := by
  unfold stepEnvelope
  cases h : s.identity with
  | triangle => exact absurd h hid
  | _ => rfl

theorem stepEnvelope_of_triangle {s : State} (hid : s.identity = .triangle) : stepEnvelope s = s := by
  unfold stepEnvelope
  rw [hid]

theorem stepLinear_of_triangle {s : State} (hid : s.identity = .triangle) : stepLinear s = linearTick s := by
  unfold stepLinear
  rw [hid]

theorem stepLinear_of_ne_triangle {s : State} (hid : s.identity ≠ .triangle) : stepLinear s = s := by
  unfold stepLinear
  cases h : s.identity with
  | triangle => exact absurd h hid
  | _ => rfl

theorem stepNoiseClock_of_ne_noise {s : State} (hid : s.identity ≠ .noise) : stepNoiseClock s = s := by
  unfold stepNoiseClock
  cases h : s.identity with
  | noise => exact absurd h hid
  | _ => rfl

/-- Step 6 writes the volume, the period with the clock, and the divider with its flag (R113 to R115). -/
theorem stepSweep_frame (s : State) :
    stepSweep s = { s with
      volume := (stepSweep s).volume, period := (stepSweep s).period,
      clkRate := (stepSweep s).clkRate, clkRunning := (stepSweep s).clkRunning,
      sweepDividerCounter := (stepSweep s).sweepDividerCounter,
      sweepReloadFlag := (stepSweep s).sweepReloadFlag } := by
  unfold stepSweep
  split
  · rw [stepSweepReload_eq, stepSweepDivider_frame]
  · rw [stepSweepReload_eq, stepSweepDivider_frame]
  · rfl
  · rfl

theorem envelopeTick_of_reload {s : State} (hf : s.envReloadFlag = true) :
    envelopeTick s = { s with envReloadFlag := false, envDivider := s.envReloadValue, envVolume := 15 } :=
  if_pos hf

theorem envelopeTick_of_divider_zero {s : State} (hf : s.envReloadFlag = false) (hd : s.envDivider = 0) :
    envelopeTick s = { s with
      envDivider := s.envReloadValue
      envVolume := if s.envVolume ≠ 0 then s.envVolume - 1
        else if s.lengthCounterHalt then 15 else s.envVolume } :=
  (if_neg (by simp [hf])).trans (if_pos hd)

theorem envelopeTick_of_divider_ne_zero {s : State} (hf : s.envReloadFlag = false) (hd : s.envDivider ≠ 0) :
    envelopeTick s = { s with envDivider := s.envDivider - 1 } :=
  (if_neg (by simp [hf])).trans (if_neg hd)

/-- The reload flag is 0 after step 1 in every case. -/
theorem envelopeTick_envReloadFlag (s : State) : (envelopeTick s).envReloadFlag = false := by
  unfold envelopeTick
  split
  · rfl
  · next hf =>
    rw [Bool.not_eq_true] at hf
    split <;> exact hf

/-- The volume after step 3 (R118, D18). -/
theorem stepVolume_volume (s : State) :
    (stepVolume s).volume =
      if s.lengthCounter = 0 then 0 else if s.identity = .triangle then s.volume else envelopeLevel s := by
  unfold stepVolume
  split
  · rfl
  · cases s.identity <;> rfl

/-- Step 4 on Noise (R119). -/
theorem stepNoiseClock_clkRunning_of_noise {s : State} (hid : s.identity = .noise) :
    (stepNoiseClock s).clkRunning = if s.volume = 0 then false else s.clkRunning := by
  unfold stepNoiseClock
  rw [hid]
  exact apply_ite State.clkRunning _ _ _

/-! ### The two parts of an edge -/

/-- The toggle of `frame_parity` with steps 5 and 6, which run on half-frame edges only (R110, R111). -/
def halfFramePart (s : State) : State :=
  if halfFrameEdge s.frameParity then halfFrameSteps (toggleParity s) else toggleParity s

theorem frameEdge_eq (s : State) : frameEdge s = quarterFrameSteps (halfFramePart s) := by
  unfold frameEdge halfFramePart
  split <;> rfl

theorem halfFramePart_of_half {s : State} (h : halfFrameEdge s.frameParity = true) :
    halfFramePart s = stepSweep (stepLength (toggleParity s)) := if_pos h

theorem halfFramePart_of_not_half {s : State} (h : halfFrameEdge s.frameParity = false) :
    halfFramePart s = toggleParity s := if_neg (by simp [h])

/-- The half-frame part writes the parity, the length counter and what step 6 writes. -/
theorem halfFramePart_frame (s : State) :
    halfFramePart s = { s with
      frameParity := !s.frameParity, lengthCounter := (halfFramePart s).lengthCounter
      volume := (halfFramePart s).volume, period := (halfFramePart s).period
      clkRate := (halfFramePart s).clkRate, clkRunning := (halfFramePart s).clkRunning
      sweepDividerCounter := (halfFramePart s).sweepDividerCounter
      sweepReloadFlag := (halfFramePart s).sweepReloadFlag } := by
  cases h : halfFrameEdge s.frameParity with
  | true =>
    rw [halfFramePart_of_half h, stepSweep_frame, stepLength_eq]
    rfl
  | false =>
    rw [halfFramePart_of_not_half h]
    rfl

/-- Without a sweep unit the half-frame part writes the parity and the length counter alone (R120). -/
theorem halfFramePart_frame_of_not_pulse {s : State} (hid : s.identity = .triangle ∨ s.identity = .noise) :
    halfFramePart s = { s with
      frameParity := !s.frameParity, lengthCounter := (halfFramePart s).lengthCounter } := by
  cases h : halfFrameEdge s.frameParity with
  | true =>
    rw [halfFramePart_of_half h, stepSweep_of_not_pulse (by simpa using hid), stepLength_eq]
    rfl
  | false =>
    rw [halfFramePart_of_not_half h]
    rfl

section
variable (s : State)

@[simp] theorem halfFramePart_identity : (halfFramePart s).identity = s.identity :=
  (congrArg State.identity (halfFramePart_frame s) :)
@[simp] theorem halfFramePart_frameParity : (halfFramePart s).frameParity = !s.frameParity :=
  (congrArg State.frameParity (halfFramePart_frame s) :)
@[simp] theorem halfFramePart_lengthCounterHalt : (halfFramePart s).lengthCounterHalt = s.lengthCounterHalt :=
  (congrArg State.lengthCounterHalt (halfFramePart_frame s) :)
@[simp] theorem halfFramePart_envReloadValue : (halfFramePart s).envReloadValue = s.envReloadValue :=
  (congrArg State.envReloadValue (halfFramePart_frame s) :)
@[simp] theorem halfFramePart_envDivider : (halfFramePart s).envDivider = s.envDivider :=
  (congrArg State.envDivider (halfFramePart_frame s) :)
@[simp] theorem halfFramePart_envVolume : (halfFramePart s).envVolume = s.envVolume :=
  (congrArg State.envVolume (halfFramePart_frame s) :)
@[simp] theorem halfFramePart_envReloadFlag : (halfFramePart s).envReloadFlag = s.envReloadFlag :=
  (congrArg State.envReloadFlag (halfFramePart_frame s) :)
@[simp] theorem halfFramePart_dacOut : (halfFramePart s).dacOut = s.dacOut :=
  (congrArg State.dacOut (halfFramePart_frame s) :)
@[simp] theorem halfFramePart_shiftRegister : (halfFramePart s).shiftRegister = s.shiftRegister :=
  (congrArg State.shiftRegister (halfFramePart_frame s) :)
@[simp] theorem halfFramePart_linearCounter : (halfFramePart s).linearCounter = s.linearCounter :=
  (congrArg State.linearCounter (halfFramePart_frame s) :)
@[simp] theorem halfFramePart_linearCounterReloadValue :
    (halfFramePart s).linearCounterReloadValue = s.linearCounterReloadValue :=
  (congrArg State.linearCounterReloadValue (halfFramePart_frame s) :)
@[simp] theorem halfFramePart_linearCounterReloadFlag :
    (halfFramePart s).linearCounterReloadFlag = s.linearCounterReloadFlag :=
  (congrArg State.linearCounterReloadFlag (halfFramePart_frame s) :)

end

theorem quarterFrameSteps_of_pulse {s : State} (hid : s.identity = .pulse1 ∨ s.identity = .pulse2) :
    quarterFrameSteps s = stepVolume (stepEnvelope s) := by
  have ht : s.identity ≠ .triangle := by rintro h; simp [h] at hid
  have hn : s.identity ≠ .noise := by rintro h; simp [h] at hid
  unfold quarterFrameSteps
  rw [stepNoiseClock_of_ne_noise (by simpa using hn), stepLinear_of_ne_triangle (by simpa using ht)]

theorem quarterFrameSteps_of_triangle {s : State} (hid : s.identity = .triangle) :
    quarterFrameSteps s = stepVolume (stepLinear s) := by
  unfold quarterFrameSteps
  rw [stepNoiseClock_of_ne_noise (by simp [hid]), stepEnvelope_of_triangle hid]

theorem quarterFrameSteps_of_noise {s : State} (hid : s.identity = .noise) :
    quarterFrameSteps s = stepNoiseClock (stepVolume (stepEnvelope s)) := by
  have ht : s.identity ≠ .triangle := by simp [hid]
  unfold quarterFrameSteps
  rw [stepLinear_of_ne_triangle (by simpa using ht)]

section
variable (s : State)

@[simp] theorem quarterFrameSteps_frameParity : (quarterFrameSteps s).frameParity = s.frameParity := by
  simp [quarterFrameSteps]
@[simp] theorem quarterFrameSteps_lengthCounter : (quarterFrameSteps s).lengthCounter = s.lengthCounter := by
  simp [quarterFrameSteps]
@[simp] theorem quarterFrameSteps_dacOut : (quarterFrameSteps s).dacOut = s.dacOut := by
  simp [quarterFrameSteps]
@[simp] theorem quarterFrameSteps_shiftRegister : (quarterFrameSteps s).shiftRegister = s.shiftRegister := by
  simp [quarterFrameSteps]

/-- Step 3 comes after every other write of the fields that it reads (R110, D13). -/
theorem quarterFrameSteps_volume :
    (quarterFrameSteps s).volume =
      if s.lengthCounter = 0 then 0 else if s.identity = .triangle then s.volume
      else envelopeLevel (quarterFrameSteps s) := by
  have hlevel : envelopeLevel (quarterFrameSteps s) = envelopeLevel (stepLinear (stepEnvelope s)) := by
    simp [envelopeLevel, quarterFrameSteps]
  rw [hlevel, quarterFrameSteps, stepNoiseClock_volume, stepVolume_volume]
  simp

end

/-! ### Parity and length (R110 to R112) -/

theorem frameEdge_frameParity (s : State) : (frameEdge s).frameParity = !s.frameParity := by
  rw [frameEdge_eq, quarterFrameSteps_frameParity, halfFramePart_frameParity]

/-- Steps 1 to 4 leave the length counter alone, and so does step 6. -/
theorem frameEdge_lengthCounter_toNat (s : State) :
    (frameEdge s).lengthCounter.toNat =
      if halfFrameEdge s.frameParity = true ∧ s.lengthCounterHalt = false then s.lengthCounter.toNat - 1
      else s.lengthCounter.toNat := by
  rw [frameEdge_eq, quarterFrameSteps_lengthCounter]
  cases h : halfFrameEdge s.frameParity with
  | true =>
    rw [halfFramePart_of_half h, stepSweep_lengthCounter, stepLength_toNat]
    cases hh : s.lengthCounterHalt <;> simp [hh]
  | false => simp [halfFramePart_of_not_half h]

/-- Settles O30: the phase is a value of the parity, which toggles. -/
theorem frameTogglesParityAndEverySecondEdgeIsHalf : Obligations.FrameTogglesParityAndEverySecondEdgeIsHalf := by
  unfold Obligations.FrameTogglesParityAndEverySecondEdgeIsHalf
  refine ⟨fun s => ⟨frameEdge s, rfl, frameEdge_frameParity s, ?_⟩, rfl⟩
  rw [frameEdge_frameParity]
  cases s.frameParity <;> rfl

/-- Settles O29: step 5 alone writes the counter (`frameEdge_lengthCounter_toNat`). -/
theorem frameCountsTheLengthDown : Obligations.FrameCountsTheLengthDown := by
  unfold Obligations.FrameCountsTheLengthDown
  exact fun s => ⟨frameEdge s, rfl, frameEdge_lengthCounter_toNat s⟩

/-! ### Envelope and linear counter (R116, R117) -/

/-- Away from 0 a step down does not wrap. -/
theorem toNat_sub_one_of_ne_zero {w : Nat} {x : BitVec w} (hx : x ≠ 0) : (x - 1).toNat = x.toNat - 1 := by
  have hpos := BitVec.toNat_pos_of_ne_zero hx
  have hone : (1 : BitVec w).toNat = 1 := Nat.mod_eq_of_lt (Nat.lt_of_le_of_lt hpos x.isLt)
  rw [BitVec.toNat_sub_of_le (BitVec.le_def.2 (hone.trans_le hpos)), hone]

/-- A counter that goes down by one until it is 0, in numbers. -/
theorem toNat_countDown {w : Nat} (x y : BitVec w) :
    (if x ≠ 0 then x - 1 else y).toNat = if 0 < x.toNat then x.toNat - 1 else y.toNat := by
  by_cases hx : x = 0
  · simp [hx]
  · rw [if_pos hx, if_pos (BitVec.toNat_pos_of_ne_zero hx), toNat_sub_one_of_ne_zero hx]

/-- Steps 1 to 4 leave the envelope as step 1 does, and the half-frame part does not write it. -/
theorem frameEdge_envelope {s : State} (hid : s.identity ≠ .triangle) :
    (frameEdge s).envReloadFlag = false ∧
    (frameEdge s).envDivider = (envelopeTick (halfFramePart s)).envDivider ∧
    (frameEdge s).envVolume = (envelopeTick (halfFramePart s)).envVolume := by
  rw [frameEdge_eq, ← stepEnvelope_of_ne_triangle (by simpa using hid)]
  simp [quarterFrameSteps, stepEnvelope_of_ne_triangle, hid, envelopeTick_envReloadFlag]

/-- Settles O31: the three cases of the envelope generator. -/
theorem frameRunsTheEnvelope : Obligations.FrameRunsTheEnvelope := by
  unfold Obligations.FrameRunsTheEnvelope
  intro s hid
  obtain ⟨hflag, hdivider, hvolume⟩ := frameEdge_envelope hid
  refine ⟨frameEdge s, rfl, ?_⟩
  rw [hflag, hdivider, hvolume]
  refine ⟨fun hf => ?reload, fun hf => ⟨rfl, fun hd => ?divider_zero, fun hd => ?divider_ne_zero⟩⟩
  case reload =>
    rw [envelopeTick_of_reload (by simpa using hf)]
    simp
  case divider_zero =>
    rw [envelopeTick_of_divider_zero (by simpa using hf) (by simpa using hd)]
    refine ⟨by simp, (toNat_countDown _ _).trans ?_⟩
    rw [halfFramePart_envVolume, halfFramePart_lengthCounterHalt]
    split
    · rfl
    · cases s.lengthCounterHalt
      · show s.envVolume.toNat = 0
        omega
      · rfl
  case divider_ne_zero =>
    rw [envelopeTick_of_divider_ne_zero (by simpa using hf) (by simpa using hd)]
    exact ⟨by rw [← toNat_sub_one_of_ne_zero hd, halfFramePart_envDivider], halfFramePart_envVolume s⟩

theorem frameEdge_linear {s : State} (hid : s.identity = .triangle) :
    (frameEdge s).linearCounter = (linearTick s).linearCounter ∧
    (frameEdge s).linearCounterReloadFlag = (linearTick s).linearCounterReloadFlag := by
  rw [frameEdge_eq, quarterFrameSteps_of_triangle (by simpa using hid)]
  simp [stepLinear_of_triangle, hid, linearTick]

/-- Settles O32: step 2 is the linear counter's rule. -/
theorem frameRunsTheLinearCounter : Obligations.FrameRunsTheLinearCounter := by
  unfold Obligations.FrameRunsTheLinearCounter
  intro s hid
  obtain ⟨hcounter, hflag⟩ := frameEdge_linear hid
  refine ⟨frameEdge s, rfl, ?_⟩
  rw [hcounter, hflag, linearTick]
  refine ⟨fun hf => by simp [hf], fun hf => ?_, by cases s.lengthCounterHalt <;> rfl⟩
  rw [hf, if_neg Bool.false_ne_true, toNat_countDown]
  split <;> omega

/-! ### Volume and the Noise clock (R118, R119) -/

/-- Settles O33: the three cases of `quarterFrameSteps_volume`. On a Triangle no sweep unit has muted the volume before. -/
theorem frameRecomputesTheVolume : Obligations.FrameRecomputesTheVolume := by
  unfold Obligations.FrameRecomputesTheVolume
  intro s
  refine ⟨frameEdge s, rfl, ?_⟩
  rw [frameEdge_eq, quarterFrameSteps_lengthCounter, quarterFrameSteps_volume, halfFramePart_identity]
  refine ⟨fun hl => if_pos hl, fun hl hid => ?_, fun hl hid => ?_⟩
  · rw [if_neg hl, if_neg hid]
    rfl
  · rw [if_neg hl, if_pos hid, halfFramePart_frame_of_not_pulse (.inl hid)]

/-- Settles O36: step 4 reads the volume that the edge ends with, and nothing before it on Noise writes the run bit. -/
theorem frameStopsAMutedNoiseClock : Obligations.FrameStopsAMutedNoiseClock := by
  unfold Obligations.FrameStopsAMutedNoiseClock
  intro s hid
  have hclock : (frameEdge s).clkRunning = if (frameEdge s).volume = 0 then false else s.clkRunning := by
    rw [frameEdge_eq, quarterFrameSteps_of_noise (by simpa using hid),
      stepNoiseClock_clkRunning_of_noise (by simpa using hid), halfFramePart_frame_of_not_pulse (.inr hid)]
    simp
  refine ⟨frameEdge s, rfl, fun hv => hclock.trans (if_pos hv), fun hv => hclock.trans (if_neg hv), ?_, ?_⟩
  · rw [frameEdge_eq, quarterFrameSteps_dacOut, halfFramePart_dacOut]
  · rw [frameEdge_eq, quarterFrameSteps_shiftRegister, halfFramePart_shiftRegister]

/-! ### What an edge leaves unchanged (R120, R33) -/

/-- No step of an edge stores a byte (R33). -/
theorem frameEdge_memRead (s : State) (q : QArray) (n : Nat) : (frameEdge s).memRead q n = s.memRead q n := by
  refine frameEdge_keeps (fun u => u.memRead q n = s.memRead q n) ?_ ?_ ?_ ?_ ?_ ?_ ?_ s rfl <;>
    cases q <;> simp [State.memRead, State.array]

/-- Settles O37: the steps that run on each identity, each with its frame. -/
theorem frameWritesOnlyTheStepsFields : Obligations.FrameWritesOnlyTheStepsFields := by
  unfold Obligations.FrameWritesOnlyTheStepsFields
  intro s
  refine ⟨frameEdge s, rfl, fun hid => ?_, fun hid => ?_, fun hid => ?_, fun q n => ?_⟩
  · rw [frameEdge_eq, quarterFrameSteps_of_pulse (by simpa using hid), stepVolume_frame, stepEnvelope_frame,
      halfFramePart_frame]
  · rw [frameEdge_eq, quarterFrameSteps_of_triangle (by simpa using hid), stepVolume_frame, stepLinear_frame,
      halfFramePart_frame_of_not_pulse (.inl hid)]
  · rw [frameEdge_eq, quarterFrameSteps_of_noise (by simpa using hid), stepNoiseClock_frame, stepVolume_frame,
      stepEnvelope_frame, halfFramePart_frame_of_not_pulse (.inr hid)]
  · exact frameEdge_memRead s q n

/-! ### The sweep unit (R113 to R115) -/

/-- Settles O35: `~~~delta` and `~~~delta + 1` are added to the same period. -/
theorem sweepTargetsOfThePulseUnitsDifferByOne : Obligations.SweepTargetsOfThePulseUnitsDifferByOne := by
  unfold Obligations.SweepTargetsOfThePulseUnitsDifferByOne
  exact fun p sh => BitVec.add_assoc _ _ _

/-- The sweep target as an integer, of any sign (R113). -/
def sweepTargetInt (s : State) : Int :=
  if s.sweepNegate then
    (if s.identity = .pulse1 then (s.period.toNat : Int) - (s.period.toNat / 2 ^ s.sweepShift.toNat : Nat) - 1
      else (s.period.toNat : Int) - (s.period.toNat / 2 ^ s.sweepShift.toNat : Nat))
  else (s.period.toNat : Int) + (s.period.toNat / 2 ^ s.sweepShift.toNat : Nat)

/-- The 16-bit target stands for the integer one modulo 2^16. -/
theorem sweepTarget_toNat {s : State} (hid : s.identity = .pulse1 ∨ s.identity = .pulse2) :
    (s.sweepTarget.toNat : Int) = sweepTargetInt s % 65536 :=
  sweepTargetOf_int s.identity s.period s.sweepShift s.sweepNegate hid

/-- No period of 11 bits takes the target far from 0: a negative target wraps above 0x7FF. -/
theorem sweepTargetInt_range (s : State) : -1 ≤ sweepTargetInt s ∧ sweepTargetInt s < 4096 := by
  have hperiod := s.period.isLt
  have hdelta : s.period.toNat / 2 ^ s.sweepShift.toNat ≤ s.period.toNat := Nat.div_le_self _ _
  unfold sweepTargetInt
  generalize s.period.toNat / 2 ^ s.sweepShift.toNat = delta at hdelta ⊢
  split
  · split <;> omega
  · omega

/-- The mute test, in integers (R114, D12). -/
theorem sweepOutOfRange_eq_false_iff {s : State} (hid : s.identity = .pulse1 ∨ s.identity = .pulse2) :
    sweepOutOfRange s.sweepTarget s.period = false ↔
      8 ≤ (s.period.toNat : Int) ∧ 0 ≤ sweepTargetInt s ∧ sweepTargetInt s ≤ 0x7FF := by
  have hword := sweepTarget_toNat hid
  have hrange := sweepTargetInt_range s
  simp only [sweepOutOfRange, Bool.or_eq_false_iff, decide_eq_false_iff_not]
  omega

/-- The sweep unit commits: the divider was 0, the sweep is enabled, and the target is not out of range (R114). -/
def SweepCommits (s : State) : Prop :=
  s.sweepDividerCounter = 0 ∧ s.sweepEnabled = true ∧ sweepOutOfRange s.sweepTarget s.period = false

theorem stepSweepDivider_of_commits {s : State} (h : SweepCommits s) :
    stepSweepDivider s =
      setPeriod (periodOfTarget s.sweepTarget) { s with sweepDividerCounter := s.sweepDividerPeriod } := by
  obtain ⟨hcounter, henabled, hin⟩ := h
  obtain ⟨hne, -⟩ | ⟨-, hout, -⟩ | ⟨-, -, -, he⟩ | ⟨-, -, hoff, -⟩ := stepSweepDivider_cases s
  · exact absurd hcounter hne
  · simp [hin] at hout
  · exact he
  · simp [henabled] at hoff

theorem stepSweepDivider_of_not_commits {s : State} (h : ¬SweepCommits s) :
    (stepSweepDivider s).period = s.period ∧ (stepSweepDivider s).clkRate = s.clkRate ∧
    (stepSweepDivider s).clkRunning = s.clkRunning := by
  obtain ⟨-, he⟩ | ⟨-, -, he⟩ | ⟨hcounter, hin, henabled, -⟩ | ⟨-, -, -, he⟩ := stepSweepDivider_cases s
  · rw [he]; exact ⟨rfl, rfl, rfl⟩
  · rw [he]; exact ⟨rfl, rfl, rfl⟩
  · exact absurd ⟨hcounter, henabled, hin⟩ h
  · rw [he]; exact ⟨rfl, rfl, rfl⟩

/-- A commit takes the target as the period and reprograms the clock with it (R114, D14). -/
theorem stepSweepDivider_commit {s : State} (hid : s.identity = .pulse1 ∨ s.identity = .pulse2) (h : SweepCommits s) :
    ((stepSweepDivider s).period.toNat : Int) = sweepTargetInt s ∧
    (stepSweepDivider s).clkRate = (stepSweepDivider s).period ∧
    (stepSweepDivider s).clkRunning = decide (8 ≤ (stepSweepDivider s).period.toNat) := by
  have htarget : ((periodOfTarget s.sweepTarget).toNat : Int) = sweepTargetInt s := by
    obtain ⟨-, -, hin⟩ := h
    have hword := sweepTarget_toNat hid
    obtain ⟨-, hlow, hhigh⟩ := (sweepOutOfRange_eq_false_iff hid).1 hin
    rw [periodOfTarget, BitVec.toNat_setWidth]
    omega
  have hmin : minPeriod s.identity = some 8 := by obtain h | h := hid <;> rw [h] <;> rfl
  rw [stepSweepDivider_of_commits h,
    setPeriod_eq_of_minPeriod (s := { s with sweepDividerCounter := s.sweepDividerPeriod }) rfl hmin]
  exact ⟨htarget, rfl, rfl⟩

/-- The divider after part 2 of step 6: reloaded from 0, else one less (R114). -/
theorem stepSweepDivider_sweepDividerCounter (s : State) :
    (stepSweepDivider s).sweepDividerCounter =
      if s.sweepDividerCounter = 0 then s.sweepDividerPeriod else s.sweepDividerCounter - 1 := by
  obtain ⟨hne, he⟩ | ⟨hz, -, he⟩ | ⟨hz, -, -, he⟩ | ⟨hz, -, -, he⟩ := stepSweepDivider_cases s <;> rw [he]
  · rw [if_neg hne]
  · rw [if_pos hz]
  · rw [if_pos hz]; rfl
  · rw [if_pos hz]

/-- The divider after the whole of step 6: the reload flag reloads it too (R115). -/
theorem stepSweepReload_stepSweepDivider_sweepDividerCounter (s : State) :
    (stepSweepReload (stepSweepDivider s)).sweepDividerCounter =
      if s.sweepReloadFlag = true ∨ s.sweepDividerCounter = 0 then s.sweepDividerPeriod
      else s.sweepDividerCounter - 1 := by
  rw [stepSweepReload_eq]
  cases hf : s.sweepReloadFlag <;> simp [hf, stepSweepDivider_sweepDividerCounter]

/-- Steps 1 to 4 of a pulse node leave the fields that only the sweep unit writes. -/
theorem frameEdge_sweep {s : State} (hid : s.identity = .pulse1 ∨ s.identity = .pulse2) :
    (frameEdge s).period = (halfFramePart s).period ∧
    (frameEdge s).clkRate = (halfFramePart s).clkRate ∧
    (frameEdge s).clkRunning = (halfFramePart s).clkRunning ∧
    (frameEdge s).sweepDividerCounter = (halfFramePart s).sweepDividerCounter ∧
    (frameEdge s).sweepReloadFlag = (halfFramePart s).sweepReloadFlag := by
  rw [frameEdge_eq, quarterFrameSteps_of_pulse (by simpa using hid)]
  simp

/-- The state that the sweep unit of a half-frame edge starts from has the fields that it reads as before the edge. -/
theorem sweepCommits_stepLength_toggleParity (s : State) :
    SweepCommits (stepLength (toggleParity s)) ↔ SweepCommits s := by
  simp [SweepCommits, State.sweepTarget]

theorem sweepTargetInt_stepLength_toggleParity (s : State) :
    sweepTargetInt (stepLength (toggleParity s)) = sweepTargetInt s := by
  simp [sweepTargetInt]

/-- Settles O34: on a half-frame edge the unit commits exactly when the statement's integers say so (`hcommits`), and what
it then does is `stepSweepDivider_commit` or `stepSweepDivider_of_not_commits`. -/
theorem frameRunsTheSweepUnit : Obligations.FrameRunsTheSweepUnit := by
  unfold Obligations.FrameRunsTheSweepUnit
  intro s hid
  refine ⟨frameEdge s, rfl, ?_⟩
  rintro period delta target rfl rfl htarget
  replace htarget : target = sweepTargetInt s := htarget
  subst htarget
  obtain ⟨hperiod, hrate, hrun, hcounter, hflag⟩ := frameEdge_sweep hid
  rw [hperiod, hrate, hrun, hcounter, hflag]
  refine ⟨fun hhalf => ?_, fun hhalf => ?_⟩
  · rw [halfFramePart_of_not_half hhalf]
    simp
  · have hcommits : SweepCommits (stepLength (toggleParity s)) ↔ s.sweepDividerCounter = 0 ∧ s.sweepEnabled = true ∧
        8 ≤ (s.period.toNat : Int) ∧ 0 ≤ sweepTargetInt s ∧ sweepTargetInt s ≤ 0x7FF := by
      rw [sweepCommits_stepLength_toggleParity, SweepCommits, sweepOutOfRange_eq_false_iff hid]
    rw [halfFramePart_of_half hhalf, stepSweep_of_pulse (by simpa using hid), ← hcommits,
      stepSweepReload_stepSweepDivider_sweepDividerCounter, stepSweepReload_eq]
    refine ⟨rfl, fun h => ?_, fun hf hne => ?_, fun h => ?_, fun h => ?_⟩
    · rw [if_pos (by simpa using h)]
      simp
    · rw [if_neg (by simpa [hf] using hne), ← toNat_sub_one_of_ne_zero hne]
      simp
    · rw [← sweepTargetInt_stepLength_toggleParity]
      exact stepSweepDivider_commit (by simpa using hid) h
    · simpa using stepSweepDivider_of_not_commits h

end Sys2Proof.Proofs
end

section
/-! PROOFS. The statements of 42_sample_generator.md. First what one tick writes, for each generator; then the run of
ticks alone and what is seen of it; then that nothing but a tick or the one reset writes the DAC. -/

namespace Sys2Proof.Proofs

open Sys2Proof.Machine Sys2Proof.Safety

/-! ### One tick (R130 to R133) -/

theorem exec_sample_of_running {s : State} (hc : s.clkRunning = true) : exec .sample s = .next (sampleTick s) :=
  if_pos hc

/-- Settles O41: a stopped clock produces no tick (R130, log 4). -/
theorem sampleOfAStoppedClockChangesNothing : Obligations.SampleOfAStoppedClockChangesNothing := by
  unfold Obligations.SampleOfAStoppedClockChangesNothing
  exact fun s hc => if_neg (by simp [hc])

theorem sampleTick_of_pulse {s : State} (hid : s.identity = .pulse1 ∨ s.identity = .pulse2) :
    sampleTick s = { s with
      pulseStep := s.pulseStep + 1
      dacOut := if pulseHigh (s.pulseStep + 1) s.dutyCycle then s.volume else 0 } := by
  have htick : sampleTick s = pulseTick s := by
    unfold sampleTick
    obtain h | h := hid <;> rw [h]
  exact htick

theorem sampleTick_of_open_triangle {s : State} (hid : s.identity = .triangle)
    (hgate : triangleGate s.linearCounter s.lengthCounter = true) :
    sampleTick s = { s with triStep := s.triStep + 1, dacOut := triangleLevel (s.triStep + 1) } := by
  have htick : sampleTick s = triangleTick s := by
    unfold sampleTick
    rw [hid]
  exact htick.trans (if_pos hgate)

theorem sampleTick_of_closed_triangle {s : State} (hid : s.identity = .triangle)
    (hgate : triangleGate s.linearCounter s.lengthCounter = false) : sampleTick s = s := by
  unfold sampleTick
  rw [hid]
  exact if_neg (by simp [hgate])

/-- The next value of the LFSR in a mode (R133). -/
def lfsrNext (mode : Bool) (r : BitVec 15) : BitVec 15 := lfsrShift (lfsrFeedback mode r) r

theorem sampleTick_of_noise {s : State} (hid : s.identity = .noise) :
    sampleTick s = { s with
      shiftRegister := lfsrNext s.shiftMode s.shiftRegister
      dacOut := if (lfsrNext s.shiftMode s.shiftRegister).getLsbD 0 then 0 else s.volume } := by
  have htick : sampleTick s = noiseTick s := by
    unfold sampleTick
    rw [hid]
  exact htick

/-- The gate is open when both counters are above 0 (R132). -/
theorem triangleGate_eq_true_iff {linear : BitVec 7} {length : BitVec 8} :
    triangleGate linear length = true ↔ linear ≠ 0 ∧ length ≠ 0 := by
  simp [triangleGate]

theorem triangleGate_eq_false_iff {linear : BitVec 7} {length : BitVec 8} :
    triangleGate linear length = false ↔ linear = 0 ∨ length = 0 := by
  rw [← Bool.not_eq_true, triangleGate_eq_true_iff]
  tauto

/-- One step of a generator is one more modulo `2 ^ w`. -/
theorem ofNat_toNat_add_one {w : Nat} (x : BitVec w) : BitVec.ofNat w (x.toNat + 1) = x + 1 := by
  rw [BitVec.ofNat_add, BitVec.ofNat_toNat, BitVec.setWidth_eq]
  rfl

/-- Settles O38: the comparison is with the step after the increment. -/
theorem sampleRunsTheDutyCycle : Obligations.SampleRunsTheDutyCycle := by
  unfold Obligations.SampleRunsTheDutyCycle
  intro s hc hid
  have hstep : (s.pulseStep + 1).toNat = (s.pulseStep.toNat + 1) % 16 := BitVec.toNat_add _ _
  rw [exec_sample_of_running hc, sampleTick_of_pulse hid, ofNat_toNat_add_one, ← hstep]
  simp [pulseHigh]

/-- The two halves of the ramp in numbers (R132). -/
theorem triangleLevel_eq : ∀ x : BitVec 5,
    triangleLevel x = BitVec.ofNat 4 (if x.toNat < 16 then x.toNat else 31 - x.toNat) := by decide

/-- Settles O39: the gate decides between the two clauses. -/
theorem sampleRunsTheTriangleRamp : Obligations.SampleRunsTheTriangleRamp := by
  unfold Obligations.SampleRunsTheTriangleRamp
  intro s hc hid
  rw [exec_sample_of_running hc]
  refine ⟨fun ⟨hlinear, hlength⟩ => ?_, fun hzero => ?_⟩
  · have hgate := triangleGate_eq_true_iff.2
      ⟨BitVec.toNat_ne_iff_ne.1 hlinear.ne', BitVec.toNat_ne_iff_ne.1 hlength.ne'⟩
    have hstep : (s.triStep + 1).toNat = (s.triStep.toNat + 1) % 32 := BitVec.toNat_add _ _
    rw [sampleTick_of_open_triangle hid hgate, ofNat_toNat_add_one, ← hstep, triangleLevel_eq]
  · rw [sampleTick_of_closed_triangle hid (triangleGate_eq_false_iff.2 hzero)]

/-- The feedback in numbers: a bit is a binary digit, and the exclusive or the parity of the sum (R133). -/
theorem lfsrFeedback_toNat (mode : Bool) (r : BitVec 15) :
    (lfsrFeedback mode r).toNat = (r.toNat + r.toNat / (if mode then 64 else 2)) % 2 := by
  have hbit : ∀ i, r.getLsbD i = decide (r.toNat / 2 ^ i % 2 = 1) := fun i => Nat.testBit_eq_decide_div_mod_eq
  have hxor : ∀ m n : Nat, (decide (m % 2 = 1) ^^ decide (n % 2 = 1)).toNat = (m + n) % 2 := by
    intro m n
    obtain hm | hm := Nat.mod_two_eq_zero_or_one m <;> obtain hn | hn := Nat.mod_two_eq_zero_or_one n <;>
      simp [Nat.add_mod, hm, hn]
  cases mode <;> simp only [lfsrFeedback, hbit] <;> exact (hxor _ _).trans (by simp)

/-- The feedback bit is added above the halved register, which is below 0x4000. -/
theorem lfsrShift_toNat (feedback : Bool) (r : BitVec 15) :
    (lfsrShift feedback r).toNat = r.toNat / 2 + 0x4000 * feedback.toNat := by
  have hhalf : r.toNat / 2 < 2 ^ 14 := by have := r.isLt; omega
  cases feedback with
  | false => simp [lfsrShift, Nat.shiftRight_eq_div_pow]
  | true =>
    have hor : r.toNat / 2 ||| 2 ^ 14 = 2 ^ 14 + r.toNat / 2 := by
      rw [Nat.or_comm]
      exact (Nat.two_pow_add_eq_or_of_lt hhalf 1).symm
    simp only [lfsrShift, if_true, BitVec.toNat_or, BitVec.toNat_ushiftRight, Nat.shiftRight_eq_div_pow]
    exact hor.trans (Nat.add_comm _ _)

/-- Settles O40: the next register in numbers. -/
theorem sampleRunsTheLfsr : Obligations.SampleRunsTheLfsr := by
  unfold Obligations.SampleRunsTheLfsr
  intro s hc hid
  refine ⟨lfsrNext s.shiftMode s.shiftRegister, ?_, ?_⟩
  · rw [lfsrNext, lfsrShift_toNat, lfsrFeedback_toNat]
  · rw [exec_sample_of_running hc, sampleTick_of_noise hid]
    generalize lfsrNext s.shiftMode s.shiftRegister = r
    have hbit : r.getLsbD 0 = decide (r.toNat % 2 = 1) := by simp [BitVec.getLsbD, Nat.testBit_zero]
    obtain hr | hr := Nat.mod_two_eq_zero_or_one r.toNat <;> rw [hbit, hr] <;> rfl

/-! ### Runs of ticks -/

theorem sampleTick_clkRunning (s : State) : (sampleTick s).clkRunning = s.clkRunning := by rw [sampleTick_frame]

theorem sampleTick_booted (s : State) : (sampleTick s).booted = s.booted := by rw [sampleTick_frame]

/-- No tick stops the clock. -/
theorem afterTicks_eq_iterate (k : Nat) : ∀ s : State, s.clkRunning = true → afterTicks k s = sampleTick^[k] s := by
  induction k with
  | zero => exact fun _ _ => rfl
  | succ k ih =>
    intro s hc
    rw [afterTicks, exec_sample_of_running hc, Function.iterate_succ_apply]
    exact ih _ ((sampleTick_clkRunning s).trans hc)

/-- `s` with the events of `es` still to come. -/
def withScript (es : List Event) (s : State) : State := { s with script := es }

/-- No generator reads the script or writes it. -/
theorem sampleTick_withScript (es : List Event) (s : State) :
    sampleTick (withScript es s) = withScript es (sampleTick s) := by
  have htriangle : triangleTick (withScript es s) = withScript es (triangleTick s) := by
    unfold triangleTick
    rw [apply_ite (withScript es)]
    rfl
  have hidentity : (withScript es s).identity = s.identity := rfl
  unfold sampleTick
  rw [hidentity]
  cases s.identity with
  | triangle => exact htriangle
  | pulse1 | pulse2 | noise => rfl

theorem iterate_sampleTick_withScript (k : Nat) (es : List Event) (s : State) :
    sampleTick^[k] (withScript es s) = withScript es (sampleTick^[k] s) :=
  Function.Commute.iterate_left (g := withScript es) (sampleTick_withScript es) k s

/-- A run whose next events are `n` ticks of a running clock shows `dac_out` after each tick (R191). -/
theorem observe_ticks (es : List Event) (n : Nat) : ∀ s : State, s.booted = true → s.clkRunning = true →
    s.script = List.replicate n .sample ++ es →
    (observe n s).dac = (List.range n).map (fun k => (sampleTick^[k + 1] s).dacOut) ∧
    (observe n s).final = withScript es (sampleTick^[n] s) := by
  induction n with
  | zero =>
    intro s _ _ hs
    refine ⟨rfl, ?_⟩
    rw [← show s.script = es from hs]
    rfl
  | succ n ih =>
    intro s hb hc hs
    replace hs : s.script = .sample :: (List.replicate n .sample ++ es) := hs
    generalize hrest : List.replicate n Event.sample ++ es = rest at hs
    have hstep : step s = .next (withScript rest (sampleTick s)) :=
      (step_sample rest hb hc hs).trans (congrArg Host.Outcome.next (sampleTick_withScript rest s))
    have hshown : sampleShown s (withScript rest (sampleTick s)) = [(sampleTick s).dacOut] := by
      rw [sampleShown_eq, if_pos ⟨nextEvent_eq_some.2 ⟨rest, hs⟩, by simp [State.enables, hb, hc]⟩]
      rfl
    obtain ⟨hdac, hfinal⟩ := ih (withScript rest (sampleTick s))
      ((sampleTick_booted s).trans hb) ((sampleTick_clkRunning s).trans hc) hrest.symm
    simp only [iterate_sampleTick_withScript] at hdac hfinal
    rw [observe_succ n hstep]
    refine ⟨?_, hfinal⟩
    rw [hshown, hdac, List.range_succ_eq_map, List.map_cons, List.map_map]
    rfl

/-! ### The periods of the pulse and the triangle (R131, R132) -/

/-- The steps that one period of ticks takes a `w`-bit generator through, from the one after `p` on. -/
def stepCycle {w : Nat} (p : BitVec w) : List (BitVec w) :=
  (List.range (2 ^ w)).map fun k => p + BitVec.ofNat w (k + 1)

theorem mem_stepCycle {w : Nat} (p x : BitVec w) : x ∈ stepCycle p := by
  refine List.mem_map.2 ⟨(x - p - 1).toNat, List.mem_range.2 (BitVec.isLt _), ?_⟩
  rw [ofNat_toNat_add_one, BitVec.sub_add_cancel, BitVec.add_comm, BitVec.sub_add_cancel]

theorem nodup_stepCycle {w : Nat} (p : BitVec w) : (stepCycle p).Nodup := by
  refine List.Nodup.map_on (fun j hj k hk h => ?_) List.nodup_range
  rw [BitVec.add_right_inj, BitVec.ofNat_add, BitVec.ofNat_add, BitVec.add_left_inj] at h
  have htoNat := congrArg BitVec.toNat h
  rwa [BitVec.toNat_ofNat, BitVec.toNat_ofNat, Nat.mod_eq_of_lt (List.mem_range.1 hj),
    Nat.mod_eq_of_lt (List.mem_range.1 hk)] at htoNat

/-- Wherever a period begins, it meets each step once. -/
theorem stepCycle_perm {w : Nat} (p q : BitVec w) : (stepCycle p).Perm (stepCycle q) :=
  (List.perm_ext_iff_of_nodup (nodup_stepCycle p) (nodup_stepCycle q)).2 fun x =>
    iff_of_true (mem_stepCycle p x) (mem_stepCycle q x)

theorem add_ofNat_add_one {w : Nat} (p : BitVec w) (k : Nat) :
    p + BitVec.ofNat w k + 1 = p + BitVec.ofNat w (k + 1) := by
  rw [BitVec.ofNat_add, ← BitVec.add_assoc]
  rfl

theorem iterate_sampleTick_of_pulse {s : State} (hid : s.identity = .pulse1 ∨ s.identity = .pulse2) (k : Nat) :
    sampleTick^[k + 1] s = { s with
      pulseStep := s.pulseStep + BitVec.ofNat 4 (k + 1)
      dacOut := if pulseHigh (s.pulseStep + BitVec.ofNat 4 (k + 1)) s.dutyCycle then s.volume else 0 } := by
  induction k with
  | zero => exact sampleTick_of_pulse hid
  | succ k ih =>
    rw [Function.iterate_succ_apply', ih, sampleTick_of_pulse (by exact hid), add_ofNat_add_one]

theorem iterate_sampleTick_of_open_triangle {s : State} (hid : s.identity = .triangle)
    (hgate : triangleGate s.linearCounter s.lengthCounter = true) (k : Nat) :
    sampleTick^[k + 1] s = { s with
      triStep := s.triStep + BitVec.ofNat 5 (k + 1)
      dacOut := triangleLevel (s.triStep + BitVec.ofNat 5 (k + 1)) } := by
  induction k with
  | zero => exact sampleTick_of_open_triangle hid hgate
  | succ k ih =>
    rw [Function.iterate_succ_apply', ih, sampleTick_of_open_triangle (by exact hid) (by exact hgate),
      add_ofNat_add_one]

/-- One period of the duty cycle has `duty_cycle` high steps, by the 16 values of `duty_cycle`. -/
theorem countP_pulseHigh_stepCycle (p duty : BitVec 4) : (stepCycle p).countP (pulseHigh · duty) = duty.toNat := by
  have hzero : ∀ d : BitVec 4, (stepCycle 0).countP (pulseHigh · d) = d.toNat := by decide
  exact ((stepCycle_perm p 0).countP_eq _).trans (hzero duty)

theorem count_triangleLevel_stepCycle (p : BitVec 5) (x : BitVec 4) :
    ((stepCycle p).map triangleLevel).count x = 2 := by
  have hzero : ∀ y : BitVec 4, ((stepCycle (0 : BitVec 5)).map triangleLevel).count y = 2 := by decide
  exact (((stepCycle_perm p 0).map _).count_eq x).trans (hzero x)

/-- A generator that puts out `a` on the steps where `high` holds and another value `b` on the others shows `a` as often
as `high` holds, and `b` the other times. -/
theorem count_map_ite {α β : Type} [DecidableEq β] {a b : β} (hab : a ≠ b) (high : α → Bool) (l : List α) :
    (l.map fun x => if high x then a else b).count a = l.countP high ∧
    (l.map fun x => if high x then a else b).count b = l.length - l.countP high := by
  induction l with
  | nil => exact ⟨rfl, rfl⟩
  | cons x l ih =>
    obtain ⟨iha, ihb⟩ := ih
    have hle := List.countP_le_length (p := high) (l := l)
    cases hx : high x
    · simp [hx, iha, ihb, hab.symm, Nat.sub_add_comm hle]
    · simp [hx, iha, ihb, hab]

/-- Settles O42: the trace of one period is the output of each step of `stepCycle` once, in some order. -/
theorem pulsePeriodHasDutyCycleHighTicks : Obligations.PulsePeriodHasDutyCycleHighTicks := by
  unfold Obligations.PulsePeriodHasDutyCycleHighTicks
  intro s es hb hc hid hv hs
  obtain ⟨hdac, hfinal⟩ := observe_ticks es 16 s hb hc hs
  have htrace : (observe 16 s).dac =
      (stepCycle s.pulseStep).map fun x => if pulseHigh x s.dutyCycle then s.volume else 0 := by
    rw [hdac, stepCycle, List.map_map]
    refine List.map_congr_left fun k _ => ?_
    rw [iterate_sampleTick_of_pulse hid]
    rfl
  have hlength : (stepCycle s.pulseStep).length = 16 := by simp [stepCycle]
  obtain ⟨hhigh, hlow⟩ := count_map_ite hv (pulseHigh · s.dutyCycle) (stepCycle s.pulseStep)
  rw [countP_pulseHigh_stepCycle] at hhigh hlow
  refine ⟨_, rfl, ?_, htrace ▸ hhigh, ?_, ?_, ?_⟩
  · rw [htrace, List.length_map, hlength]
  · rw [htrace, hlow, hlength]
  · rw [hfinal, iterate_sampleTick_of_pulse hid 15]
    exact BitVec.add_zero _
  · rw [hfinal]
    rfl

/-- Settles O43: with the gate open the trace is the ramp over `stepCycle`; with it closed a tick is the identity. -/
theorem trianglePeriodHasEachLevelTwice : Obligations.TrianglePeriodHasEachLevelTwice := by
  unfold Obligations.TrianglePeriodHasEachLevelTwice
  intro s es hb hc hid hs
  obtain ⟨hdac, hfinal⟩ := observe_ticks es 32 s hb hc hs
  refine ⟨_, rfl, by simp [hdac], by rw [hfinal]; rfl, fun hopen => ?_, fun hclosed => ?_⟩
  · have hgate := triangleGate_eq_true_iff.2 hopen
    have htrace : (observe 32 s).dac = (stepCycle s.triStep).map triangleLevel := by
      rw [hdac, stepCycle, List.map_map]
      refine List.map_congr_left fun k _ => ?_
      rw [iterate_sampleTick_of_open_triangle hid hgate]
      rfl
    refine ⟨fun x => htrace ▸ count_triangleLevel_stepCycle _ x, ?_⟩
    rw [hfinal, iterate_sampleTick_of_open_triangle hid hgate 31]
    exact BitVec.add_zero _
  · have hfixed := Function.iterate_fixed
      (sampleTick_of_closed_triangle hid (triangleGate_eq_false_iff.2 hclosed))
    simp only [hfixed] at hdac hfinal
    exact ⟨hdac.trans (by simp), hfinal⟩

/-! ### What writes the DAC (R134, D21) -/

/-- Of the five events a `SAMPLE` of a running clock and a `RESET` can change `dac_out`, and no other. -/
theorem exec_event_dacOut {e : Event} {s t : State} (h : exec e.toInstr s = .next t) :
    t.dacOut = s.dacOut ∨ (e = .sample ∧ s.clkRunning = true) ∨ ∃ cfg, e = .reset cfg := by
  cases e with
  | reset cfg => exact .inr (.inr ⟨cfg, rfl⟩)
  | push a v =>
    cases h
    rw [fifoPush_eq_withIngest]
    exact .inl rfl
  | pop =>
    obtain ⟨-, rfl⟩ | ⟨-, h⟩ := exec_pop_cases h
    · exact .inl rfl
    · rw [command_eq_withRegisters (decodeCommand_identity _ _ _) h]
      exact .inl rfl
  | frame =>
    cases h
    exact .inl (by rw [frameEdge_eq, quarterFrameSteps_dacOut, halfFramePart_dacOut])
  | sample =>
    obtain ⟨hc, -⟩ | ⟨-, rfl⟩ := exec_sample_cases h
    · exact .inr (.inl ⟨rfl, hc⟩)
    · exact .inl rfl

/-- A step that changes `dac_out` ran an enabled `SAMPLE`, or the `RESET` of a node that has had none (R7). -/
theorem step_dacOut {s t : State} (h : step s = .next t) :
    t.dacOut = s.dacOut ∨ (s.nextEvent = some .sample ∧ s.enables .sample = true) ∨
      ∃ cfg, s.nextEvent = some (.reset cfg) ∧ s.booted = false := by
  obtain ⟨-, rfl⟩ | ⟨e, -, -, rfl⟩ | ⟨e, hn, he, h⟩ := step_cases h
  · exact .inl rfl
  · exact .inl rfl
  · obtain hdac | ⟨rfl, -⟩ | ⟨cfg, rfl⟩ := exec_event_dacOut h
    · exact .inl hdac
    · exact .inr (.inl ⟨hn, he⟩)
    · exact .inr (.inr ⟨cfg, hn, by simpa [State.enables] using he⟩)

/-- No event writes the events still to come (log 3). -/
theorem exec_event_script {e : Event} {s t : State} (h : exec e.toInstr s = .next t) : t.script = s.script := by
  cases e with
  | reset cfg => cases h; rfl
  | push a v =>
    cases h
    exact fifoPush_keeps (fun u => u.script = s.script) (fun _ _ hu => hu) (fun _ hu => hu) (fun _ _ _ hu => hu)
      s a v rfl
  | pop =>
    obtain ⟨-, rfl⟩ | ⟨-, h⟩ := exec_pop_cases h
    · rfl
    · rw [command_eq_withRegisters (decodeCommand_identity _ _ _) h]
      rfl
  | frame =>
    cases h
    refine frameEdge_keeps (fun u => u.script = s.script) ?_ ?_ ?_ ?_ ?_ ?_ ?_ s rfl <;> simp
  | sample =>
    obtain ⟨-, rfl⟩ | ⟨-, rfl⟩ := exec_sample_cases h
    · rw [sampleTick_frame]
    · rfl

/-- Every step takes the next event off the script (R6, log 3). -/
theorem step_script {s t : State} (h : step s = .next t) : t.script = s.script.tail := by
  obtain ⟨hn, rfl⟩ | ⟨e, -, -, rfl⟩ | ⟨e, -, -, h⟩ := step_cases h
  · exact congrArg State.script (advance_of_nextEvent_none hn).symm
  · rfl
  · exact exec_event_script h

/-- On a node that has had its reset, what a step shows holds its last value of `dac_out`. -/
theorem step_dacOut_eq_getLast? {s t : State} (hb : s.booted = true) (h : step s = .next t) :
    t.dacOut = (sampleShown s t).getLast?.getD s.dacOut := by
  rw [sampleShown_eq]
  split
  · rfl
  · next hn =>
    obtain hdac | hsample | ⟨-, -, hnot⟩ := step_dacOut h
    · exact hdac
    · exact absurd hsample hn
    · simp [hb] at hnot

/-- The trace of a run ends with the value of `dac_out` that the run ends with, if it has a value. -/
theorem observe_dacOut (k : Nat) : ∀ s : State, s.booted = true →
    (observe k s).final.dacOut = (observe k s).dac.getLast?.getD s.dacOut := by
  induction k with
  | zero => exact fun _ _ => rfl
  | succ k ih =>
    intro s hb
    cases h : step s with
    | next t =>
      have hlast := ih t ((sameNode_step hb h).booted.trans hb)
      rw [step_dacOut_eq_getLast? hb h] at hlast
      rw [observe_succ k h]
      refine hlast.trans ?_
      simp [List.getLast?_append, Option.getD_or]
    | fault r => cases r
    | refused r => simp [observe, h, observeNow]

/-- A step shows a value only where its event is a `SAMPLE`. -/
theorem length_sampleShown_le {s t : State} : (sampleShown s t).length ≤ (s.script.take 1).count .sample := by
  rw [sampleShown_eq]
  split
  · next hn =>
    obtain ⟨es, hs⟩ := nextEvent_eq_some.1 hn.1
    simp [hs]
  · exact Nat.zero_le _

/-- A run shows at most one value for each `SAMPLE` among its events. -/
theorem observe_dac_length_le (k : Nat) : ∀ s : State,
    (observe k s).dac.length ≤ (s.script.take k).count .sample := by
  induction k with
  | zero => exact fun _ => Nat.zero_le _
  | succ k ih =>
    intro s
    cases h : step s with
    | next t =>
      have hrest := ih t
      rw [step_script h] at hrest
      have htake : s.script.take (k + 1) = s.script.take 1 ++ s.script.tail.take k := by
        cases s.script <;> simp
      rw [observe_succ k h, htake, List.count_append]
      exact List.length_append.trans_le (Nat.add_le_add length_sampleShown_le hrest)
    | fault r => cases r
    | refused r => simp [observe, h, observeNow]

/-- Settles O58: the events by `step_dacOut`, the runs by `observe_dacOut` and `observe_dac_length_le`. -/
theorem dacChangesOnlyInASample : Obligations.DacChangesOnlyInASample := by
  unfold Obligations.DacChangesOnlyInASample
  refine ⟨fun s t h hne => ?_, fun s k hb => ⟨observe_dacOut k s hb, observe_dac_length_le k s⟩⟩
  obtain hdac | ⟨hn, he⟩ | ⟨cfg, hn, hb⟩ := step_dacOut h
  · exact absurd hdac hne
  · obtain ⟨es, hs⟩ := nextEvent_eq_some.1 hn
    obtain ⟨hb, hc⟩ := Bool.and_eq_true_iff.1 he
    exact .inl ⟨es, hs, hb, hc⟩
  · obtain ⟨es, hs⟩ := nextEvent_eq_some.1 hn
    exact .inr ⟨cfg, es, hs, hb⟩

end Sys2Proof.Proofs
end

section
/-! PROOFS. R135 (b): the periods of the LFSR from its seed. A tick `L` of the register satisfies `L^15 = L^t + 1` over
the bits, where `t` is the second tap, and squaring gives the same relation for `2 ^ k` ticks at a time. In long mode
(`t = 1`) it says `L^(2^15) = L`, so the period divides 32767, and it computes the register after any `2 ^ k` ticks from
few; in short mode (`t = 6`) it computes 31 ticks from 13. That no proper divisor of 93 or of 32767 is a period is then
seen at the quotients by their prime factors. -/

namespace Sys2Proof.Proofs

open Sys2Proof.Machine Sys2Proof.Safety Function

/-! ### Ticks of a Noise node iterate `lfsrNext` -/

theorem iterate_sampleTick_of_noise (k : Nat) : ∀ s : State, s.identity = .noise →
    (sampleTick^[k] s).shiftRegister = (lfsrNext s.shiftMode)^[k] s.shiftRegister := by
  induction k with
  | zero => exact fun _ _ => rfl
  | succ k ih =>
    intro s hid
    have htick := sampleTick_of_noise hid
    rw [iterate_succ_apply, iterate_succ_apply, ih _ (by rw [htick]; exact hid), htick]

theorem afterTicks_shiftRegister {s : State} (hc : s.clkRunning = true) (hid : s.identity = .noise) (k : Nat) :
    (afterTicks k s).shiftRegister = (lfsrNext s.shiftMode)^[k] s.shiftRegister := by
  rw [afterTicks_eq_iterate k s hc, iterate_sampleTick_of_noise k s hid]

/-- The register returns to the seed after the period of `lfsrNext` at the seed, and not before. -/
theorem afterTicks_shiftRegister_of_minimalPeriod {s : State} {n : Nat} (hc : s.clkRunning = true)
    (hid : s.identity = .noise) (hseed : s.shiftRegister = 1) (hn : minimalPeriod (lfsrNext s.shiftMode) 1 = n) :
    (afterTicks n s).shiftRegister = 1 ∧ ∀ k, 0 < k → k < n → (afterTicks k s).shiftRegister ≠ 1 := by
  simp only [afterTicks_shiftRegister hc hid, hseed]
  subst hn
  exact ⟨iterate_minimalPeriod, fun k hpos hlt => not_isPeriodicPt_of_pos_of_lt_minimalPeriod hpos.ne' hlt⟩

/-- A point that comes back after `n` and not after `n / p` for any prime factor `p` of `n` has period `n`. -/
theorem minimalPeriod_eq_of_not_isPeriodicPt_div_prime {α : Type} {f : α → α} {x : α} {n : Nat}
    (hn : IsPeriodicPt f n x) (hdiv : ∀ p, p.Prime → p ∣ n → ¬IsPeriodicPt f (n / p) x) :
    minimalPeriod f x = n := by
  obtain ⟨a, ha⟩ := hn.minimalPeriod_dvd
  by_contra hne
  have ha1 : a ≠ 1 := fun h => hne (by rw [ha, h, mul_one])
  have hdvd : a.minFac ∣ n := ha ▸ a.minFac_dvd.mul_left _
  refine hdiv a.minFac (Nat.minFac_prime ha1) hdvd (isPeriodicPt_iff_minimalPeriod_dvd.2 ?_)
  exact ⟨a / a.minFac, by rw [← Nat.mul_div_assoc _ a.minFac_dvd, ← ha]⟩

/-! ### The relation of the register -/

/-- The bit that the feedback takes besides bit 0 (R133). -/
def lfsrTap (mode : Bool) : Nat := if mode then 6 else 1

theorem lfsrFeedback_eq_tap (mode : Bool) (r : BitVec 15) :
    lfsrFeedback mode r = (r.getLsbD 0 ^^ r.getLsbD (lfsrTap mode)) := by cases mode <;> rfl

theorem lfsrNext_getLsbD (mode : Bool) (r : BitVec 15) {i : Nat} (hi : i < 15) :
    (lfsrNext mode r).getLsbD i = if i = 14 then lfsrFeedback mode r else r.getLsbD (i + 1) := by
  have hmask : ∀ i < 15, (0x4000#15).getLsbD i = decide (i = 14) := by decide
  have hshift : (r >>> 1).getLsbD i = r.getLsbD (i + 1) := by rw [BitVec.getLsbD_ushiftRight, Nat.add_comm]
  unfold lfsrNext lfsrShift
  cases lfsrFeedback mode r <;> by_cases h : i = 14 <;> simp [hshift, hmask i hi, h]

/-- A bit moves down by one place in each tick. -/
theorem iterate_lfsrNext_getLsbD (mode : Bool) (n : Nat) {i : Nat} (hi : i + n < 15) : ∀ r : BitVec 15,
    ((lfsrNext mode)^[n] r).getLsbD i = r.getLsbD (i + n) := by
  induction n with
  | zero => exact fun _ => rfl
  | succ n ih =>
    intro r
    rw [iterate_succ_apply, ih (by omega), lfsrNext_getLsbD mode r (by omega), if_neg (by omega)]
    rfl

/-- Bit `i` after 15 ticks is the feedback of tick `i`, whose taps are bit `i` at the start and bit `i` after `lfsrTap`
ticks. -/
theorem iterate_lfsrNext_fifteen (mode : Bool) (r : BitVec 15) :
    (lfsrNext mode)^[15] r = (lfsrNext mode)^[lfsrTap mode] r ^^^ r := by
  have htap : lfsrTap mode < 15 := by cases mode <;> decide
  have hbit0 : ∀ (n : Nat) (q : BitVec 15), n < 15 → ((lfsrNext mode)^[n] q).getLsbD 0 = q.getLsbD n := by
    intro n q hn
    rw [iterate_lfsrNext_getLsbD mode n (by omega), Nat.zero_add]
  refine BitVec.eq_of_getLsbD_eq fun i hi => ?_
  calc ((lfsrNext mode)^[15] r).getLsbD i
      = ((lfsrNext mode)^[14 - i] (lfsrNext mode ((lfsrNext mode)^[i] r))).getLsbD i := by
        rw [← iterate_succ_apply, ← iterate_add_apply, show 14 - i + 1 + i = 15 by omega]
    _ = lfsrFeedback mode ((lfsrNext mode)^[i] r) := by
        rw [iterate_lfsrNext_getLsbD mode _ (by omega), lfsrNext_getLsbD mode _ (by omega), if_pos (by omega)]
    _ = (r.getLsbD i ^^ ((lfsrNext mode)^[lfsrTap mode] r).getLsbD i) := by
        rw [lfsrFeedback_eq_tap, hbit0 i r hi, ← hbit0 _ _ htap, Commute.iterate_iterate_self, hbit0 i _ hi]
    _ = ((lfsrNext mode)^[lfsrTap mode] r ^^^ r).getLsbD i := by rw [BitVec.getLsbD_xor, Bool.xor_comm]

theorem xor_xor_xor_cancel_middle {w : Nat} (a b c : BitVec w) : (a ^^^ b) ^^^ (b ^^^ c) = a ^^^ c := by
  rw [BitVec.xor_assoc, ← BitVec.xor_assoc b b c, BitVec.xor_self, BitVec.zero_xor]

/-- The relation for `2 ^ k` ticks at a time: the mixed terms of the square are equal and cancel. -/
theorem iterate_lfsrNext_fifteen_mul_two_pow (mode : Bool) (k : Nat) : ∀ r : BitVec 15,
    (lfsrNext mode)^[15 * 2 ^ k] r = (lfsrNext mode)^[lfsrTap mode * 2 ^ k] r ^^^ r := by
  induction k with
  | zero => exact fun r => by simpa using iterate_lfsrNext_fifteen mode r
  | succ k ih =>
    intro r
    have hdouble : ∀ m q, (lfsrNext mode)^[m * 2 ^ (k + 1)] q =
        (lfsrNext mode)^[m * 2 ^ k] ((lfsrNext mode)^[m * 2 ^ k] q) := by
      intro m q
      rw [← iterate_add_apply]
      congr 2
      ring
    rw [hdouble 15, ih, Commute.iterate_iterate_self, ih, ih r, xor_xor_xor_cancel_middle, ← hdouble]

/-! ### Short mode -/

/-- `L^30 = L^12 + 1`, one tick later. -/
theorem iterate_lfsrNext_short_thirty_one (r : BitVec 15) :
    (lfsrNext true)^[31] r = (lfsrNext true)^[13] r ^^^ lfsrNext true r :=
  iterate_lfsrNext_fifteen_mul_two_pow true 1 (lfsrNext true r)

/-- 93 ticks are 31 three times, and 93 has the prime factors 3 and 31. -/
theorem minimalPeriod_lfsrNext_short : minimalPeriod (lfsrNext true) 1 = 93 := by
  refine minimalPeriod_eq_of_not_isPeriodicPt_div_prime ?_ fun p hp hdvd => ?_
  · show (lfsrNext true)^[31 + 31 + 31] 1 = 1
    simp only [iterate_add_apply, iterate_lfsrNext_short_thirty_one]
    decide +kernel
  · rw [show 93 = 3 * 31 from rfl, hp.dvd_mul, Nat.prime_dvd_prime_iff_eq hp (by norm_num),
      Nat.prime_dvd_prime_iff_eq hp (by norm_num)] at hdvd
    obtain rfl | rfl := hdvd
    · show (lfsrNext true)^[31] 1 ≠ 1
      rw [iterate_lfsrNext_short_thirty_one]
      decide +kernel
    · show (lfsrNext true)^[3] 1 ≠ 1
      decide +kernel

/-! ### Long mode -/

/-- `L^16 = L^2 + L` for `2 ^ k` ticks at a time. -/
theorem iterate_lfsrNext_long_two_pow (k : Nat) (r : BitVec 15) :
    (lfsrNext false)^[2 ^ (k + 4)] r = (lfsrNext false)^[2 ^ (k + 1)] r ^^^ (lfsrNext false)^[2 ^ k] r := by
  have h := iterate_lfsrNext_fifteen_mul_two_pow false k ((lfsrNext false)^[2 ^ k] r)
  rw [← iterate_add_apply, ← iterate_add_apply] at h
  have hleft : 15 * 2 ^ k + 2 ^ k = 2 ^ (k + 4) := by ring
  have hright : lfsrTap false * 2 ^ k + 2 ^ k = 2 ^ (k + 1) := by
    rw [lfsrTap, if_neg Bool.false_ne_true]
    ring
  rwa [hleft, hright] at h

/-- The register after `2 ^ k` ticks in long mode, from those after at most 8. -/
def lfsrJump : Nat → BitVec 15 → BitVec 15
  | 0, r => lfsrNext false r
  | 1, r => (lfsrNext false)^[2] r
  | 2, r => (lfsrNext false)^[4] r
  | 3, r => (lfsrNext false)^[8] r
  | k + 4, r => lfsrJump (k + 1) r ^^^ lfsrJump k r

theorem lfsrJump_eq_iterate : ∀ (k : Nat) (r : BitVec 15), lfsrJump k r = (lfsrNext false)^[2 ^ k] r
  | 0, _ | 1, _ | 2, _ | 3, _ => rfl
  | k + 4, r => by
    rw [lfsrJump, lfsrJump_eq_iterate (k + 1), lfsrJump_eq_iterate k, iterate_lfsrNext_long_two_pow]

/-- Jumps one after the other take as many ticks as their sum. -/
theorem foldr_lfsrJump (ks : List Nat) (r : BitVec 15) :
    ks.foldr lfsrJump r = (lfsrNext false)^[(ks.map (2 ^ ·)).sum] r := by
  induction ks with
  | nil => rfl
  | cons k ks ih => rw [List.foldr_cons, ih, lfsrJump_eq_iterate, ← iterate_add_apply, List.map_cons, List.sum_cons]

/-- `L^256 = L^4 + L`, for `2 ^ k` ticks at a time. -/
theorem lfsrJump_add_eight (k : Nat) (r : BitVec 15) : lfsrJump (k + 8) r = lfsrJump (k + 2) r ^^^ lfsrJump k r :=
  xor_xor_xor_cancel_middle _ _ _

/-- `L^(2^15) = L`. -/
theorem lfsrJump_fifteen (r : BitVec 15) : lfsrJump 15 r = lfsrJump 0 r :=
  calc lfsrJump 15 r
      = lfsrJump 9 r ^^^ lfsrJump 7 r := lfsrJump_add_eight 7 r
    _ = (lfsrJump 3 r ^^^ lfsrJump 1 r) ^^^ ((lfsrJump 1 r ^^^ lfsrJump 0 r) ^^^ lfsrJump 3 r) :=
        congrArg (· ^^^ lfsrJump 7 r) (lfsrJump_add_eight 1 r)
    _ = lfsrJump 0 r := by
        rw [BitVec.xor_assoc (lfsrJump 1 r), xor_xor_xor_cancel_middle, BitVec.xor_comm (lfsrJump 0 r),
          ← BitVec.xor_assoc, BitVec.xor_self, BitVec.zero_xor]

/-- The register 3 is followed by the seed. -/
theorem isPeriodicPt_lfsrNext_long : IsPeriodicPt (lfsrNext false) 32767 1 := by
  have hseed : lfsrNext false 3 = 1 := by decide
  have h := lfsrJump_fifteen 3
  rw [lfsrJump_eq_iterate, lfsrJump_eq_iterate, pow_zero, iterate_one, hseed] at h
  show (lfsrNext false)^[32767] 1 = 1
  rw [← hseed, ← iterate_succ_apply, hseed]
  exact h

theorem not_isPeriodicPt_of_foldr_lfsrJump {ks : List Nat} {n : Nat} {r : BitVec 15} (hn : (ks.map (2 ^ ·)).sum = n)
    (hr : ks.foldr lfsrJump r ≠ r) : ¬IsPeriodicPt (lfsrNext false) n r := by
  rwa [foldr_lfsrJump, hn] at hr

/-- 32767 has the prime factors 7, 31 and 151; its quotients by them, 4681, 1057 and 217, are written in binary. -/
theorem minimalPeriod_lfsrNext_long : minimalPeriod (lfsrNext false) 1 = 32767 := by
  refine minimalPeriod_eq_of_not_isPeriodicPt_div_prime isPeriodicPt_lfsrNext_long fun p hp hdvd => ?_
  rw [show 32767 = 7 * 31 * 151 from rfl, hp.dvd_mul, hp.dvd_mul, Nat.prime_dvd_prime_iff_eq hp (by norm_num),
    Nat.prime_dvd_prime_iff_eq hp (by norm_num), Nat.prime_dvd_prime_iff_eq hp (by norm_num)] at hdvd
  obtain (rfl | rfl) | rfl := hdvd
  · exact not_isPeriodicPt_of_foldr_lfsrJump (ks := [12, 9, 6, 3, 0]) rfl (by decide +kernel)
  · exact not_isPeriodicPt_of_foldr_lfsrJump (ks := [10, 5, 0]) rfl (by decide +kernel)
  · exact not_isPeriodicPt_of_foldr_lfsrJump (ks := [7, 6, 4, 3, 0]) rfl (by decide +kernel)

/-- Settles O44: the period of `lfsrNext` from the seed, in short mode. -/
theorem lfsrShortModeHasPeriod93 : Obligations.LfsrShortModeHasPeriod93 := by
  unfold Obligations.LfsrShortModeHasPeriod93
  intro s hc hid hmode hseed
  exact afterTicks_shiftRegister_of_minimalPeriod hc hid hseed (hmode ▸ minimalPeriod_lfsrNext_short)

/-- Settles O45: the period of `lfsrNext` from the seed, in long mode. -/
theorem lfsrLongModeHasPeriod32767 : Obligations.LfsrLongModeHasPeriod32767 := by
  unfold Obligations.LfsrLongModeHasPeriod32767
  intro s hc hid hmode hseed
  exact afterTicks_shiftRegister_of_minimalPeriod hc hid hseed (hmode ▸ minimalPeriod_lfsrNext_long)

end Sys2Proof.Proofs
end

section
/-! PROOFS. The statements of 43_register_ingestor.md: what a `PUSH` does to the storage, the sequence and the notes,
and which command a `POP` runs. -/

namespace Sys2Proof.Proofs

open Sys2Proof.Machine Sys2Proof.Safety

/-! ### R141: the storage after a `PUSH` -/

/-- Making room moves no byte of the storage (R142). -/
theorem makeRoom_memRead (s : State) (q : QArray) (i : Nat) : (makeRoom s).memRead q i = s.memRead q i := by
  obtain ⟨-, he⟩ | ⟨-, he⟩ := makeRoom_cases s <;> rw [he]
  rw [dropHead_memRead, note_memRead]

theorem makeRoom_wr (s : State) : (makeRoom s).wr = s.wr := by
  obtain ⟨-, he⟩ | ⟨-, he⟩ := makeRoom_cases s <;> rw [he]
  rw [dropHead_wr, note_wr]

theorem makeRoom_wrap (s : State) (i : Nat) : (makeRoom s).wrap i = s.wrap i := by
  obtain ⟨-, he⟩ | ⟨-, he⟩ := makeRoom_cases s <;> rw [he]
  rw [dropHead_wrap, note_wrap]

/-- The note of a full FIFO is no `UnknownRegister` note (R161). -/
theorem makeRoom_unknownCount (s : State) : (makeRoom s).unknownCount = s.unknownCount := by
  obtain ⟨-, he⟩ | ⟨-, he⟩ := makeRoom_cases s <;> rw [he]
  rw [dropHead_unknownCount, note_unknownCount]
  exact if_neg (by simp [noteCode])

theorem fifoPush_memRead_addr_wr (a v : Byte) (s : State) : (fifoPush a v s).memRead .addr s.wr = a := by
  rw [fifoPush, memRead_appendPair, makeRoom_wr, if_pos rfl]

theorem fifoPush_memRead_data_wr (a v : Byte) (s : State) : (fifoPush a v s).memRead .data s.wr = v := by
  rw [fifoPush, memRead_appendPair, makeRoom_wr, if_pos rfl]

theorem fifoPush_memRead_of_ne (a v : Byte) {s : State} {i : Nat} (hi : i ≠ s.wr) (q : QArray) :
    (fifoPush a v s).memRead q i = s.memRead q i := by
  rw [fifoPush, memRead_appendPair, makeRoom_wr, if_neg hi, makeRoom_memRead]

/-- Settles O26: the pair goes to the write index, which making room does not move. -/
theorem pushStoresAtTheWriteIndexOnly : Obligations.PushStoresAtTheWriteIndexOnly := by
  unfold Obligations.PushStoresAtTheWriteIndexOnly
  exact fun s a v => ⟨fifoPush a v s, rfl, fifoPush_memRead_addr_wr a v s, fifoPush_memRead_data_wr a v s,
    fun q _ hi => fifoPush_memRead_of_ne a v hi q⟩

/-! ### R141, R142: the sequence after a `PUSH` -/

theorem fifoPush_wr (a v : Byte) (s : State) : (fifoPush a v s).wr = s.wrap (s.wr + 1) := by
  rw [fifoPush, appendPair_wr, makeRoom_wr, makeRoom_wrap]

theorem makeRoom_of_room {s : State} (hroom : s.count ≠ s.fifoCapacity) : makeRoom s = s := if_neg hroom

theorem makeRoom_of_full {s : State} (hfull : s.count = s.fifoCapacity) :
    makeRoom s = dropHead (note (.fifoOverflow s.head.1 s.head.2) s) := if_pos hfull

/-- The new pair is the newest of what making room has left. -/
theorem queue_fifoPush {s : State} (a v : Byte) (h : FifoWf s) :
    (fifoPush a v s).queue = (makeRoom s).queue ++ [(a, v)] :=
  queue_appendPair (makeRoom s) a v (count_makeRoom s h) (fifoWf_makeRoom s h).wrAfter

/-- The fields that a `PUSH` writes: the ring, the notes and the counter of the overflow note (R141, R142, R161). -/
theorem fifoPush_frame (a v : Byte) (s : State) :
    fifoPush a v s = { s with
      qAddr := (fifoPush a v s).qAddr, qData := (fifoPush a v s).qData, wr := (fifoPush a v s).wr
      rd := (fifoPush a v s).rd, count := (fifoPush a v s).count
      notes := (fifoPush a v s).notes, overflowCount := (fifoPush a v s).overflowCount } := by
  have hunknown : (fifoPush a v s).unknownCount = s.unknownCount := by
    rw [fifoPush, appendPair_unknownCount, makeRoom_unknownCount]
  have hscript : (fifoPush a v s).script = s.script := exec_event_script (e := .push a v) rfl
  have h := fifoPush_eq_withIngest a v s
  rwa [withIngest, hunknown, hscript] at h

/-- A sequence with a first pair is a FIFO that is not empty, with that pair at the read index. -/
theorem head_of_queue_eq_cons {s : State} {p : Byte × Byte} {q : List (Byte × Byte)} (hrd : s.rd < s.fifoCapacity)
    (hq : s.queue = p :: q) : s.count ≠ 0 ∧ s.head = p ∧ (dropHead s).queue = q := by
  have hc : s.count ≠ 0 := by
    rw [← queue_length, hq]
    exact Nat.succ_ne_zero _
  obtain ⟨hhead, htail⟩ := List.cons.inj ((queue_head s hrd hc).symm.trans hq)
  exact ⟨hc, hhead, htail⟩

/-- Settles O25: with room the push is an append; on a full FIFO the append follows a note and the drop of the
oldest pair, which is the one the note carries. -/
theorem pushAppendsAndDropsTheOldestWhenFull : Obligations.PushAppendsAndDropsTheOldestWhenFull := by
  unfold Obligations.PushAppendsAndDropsTheOldestWhenFull
  intro s a v h
  refine ⟨fifoPush a v s, rfl, fun hlen => ?room, fun p q hlen hq => ?full, fifoPush_memRead_addr_wr a v s,
    fifoPush_memRead_data_wr a v s, fifoPush_wr a v s, fifoPush_frame a v s⟩
  case room =>
    have hroom : s.count ≠ s.fifoCapacity := queue_length s ▸ hlen
    have hqueue := queue_fifoPush a v h
    rw [makeRoom_of_room hroom] at hqueue
    exact ⟨hqueue, by simp [fifoPush, makeRoom_of_room hroom]⟩
  case full =>
    have hfull : s.count = s.fifoCapacity := queue_length s ▸ hlen
    obtain ⟨hc, hhead, htail⟩ := head_of_queue_eq_cons h.rdBound hq
    have hqueue := queue_fifoPush a v h
    rw [makeRoom_of_full hfull, queue_dropHead, queue_note, ← queue_dropHead, htail] at hqueue
    have hcount : s.count - 1 + 1 = s.fifoCapacity := (Nat.succ_pred hc).trans hfull
    exact ⟨hqueue, by simp [fifoPush, makeRoom_of_full hfull, hhead, hcount, noteCode, State.wrap]⟩

/-! ### R143: the command a `POP` runs -/

theorem decodeCommand_of_decode {id : Identity} {a v : Byte} {i : Instr} (h : decode id [a, v] = .ok (i, [])) :
    decodeCommand id a v = i := by
  cases h
  rfl

/-- No register command is refused or faults (R160). -/
theorem exec_command_completes {i : Instr} {id : Identity} (hi : i.identity = some id) (s : State) :
    ∃ t, exec i s = .next t := by
  cases i with
  | reset _ | push _ _ | pop | frame | sample => cases hi
  | _ => exact ⟨_, rfl⟩

theorem exec_pop_of_empty {s : State} (hc : s.count = 0) : exec .pop s = .next s := if_pos hc

theorem exec_pop_of_nonempty {s : State} (hc : s.count ≠ 0) :
    exec .pop s = exec (decodeCommand s.identity s.head.1 s.head.2) (dropHead s) :=
  (if_neg hc).trans (runCommand_eq_exec _ (decodeCommand_identity _ _ _))

/-- A `POP` next, on a node that has had its reset and whose FIFO holds a pair (R7). -/
theorem step_pop {s : State} {es : List Event} (hb : s.booted = true) (hs : s.script = .pop :: es)
    (hc : s.count ≠ 0) :
    step s = exec (decodeCommand s.identity s.head.1 s.head.2) { dropHead s with script := es } := by
  have henabled : s.enables .pop = true := by simp [State.enables, hb, hc]
  rw [step_of_script_cons hs, if_pos henabled]
  exact exec_pop_of_nonempty (s := { s with script := es }) hc

/-- Settles O7: `step_pop`, with the pair at the read index decoded. -/
theorem stepRunsTheDecodedCommand : Obligations.StepRunsTheDecodedCommand := by
  unfold Obligations.StepRunsTheDecodedCommand
  intro s es i hb hs hc hi
  rw [← decodeCommand_of_decode hi]
  exact step_pop hb hs hc

/-- Settles O27: the oldest pair is at the read index, and the command that it decodes to writes no field of the ring
(`command_eq_withRegisters`). -/
theorem popRunsTheOldestPair : Obligations.PopRunsTheOldestPair := by
  unfold Obligations.PopRunsTheOldestPair
  intro s h
  refine ⟨fun p q hq => ?_, fun hq => exec_pop_of_empty ?_⟩
  · obtain ⟨hc, rfl, rfl⟩ := head_of_queue_eq_cons h.rdBound hq
    have hid := decodeCommand_identity s.identity s.head.1 s.head.2
    obtain ⟨t, ht⟩ := exec_command_completes hid (dropHead s)
    refine ⟨_, t, rfl, (exec_pop_of_nonempty hc).trans ht, ht, ?_⟩
    rw [command_eq_withRegisters hid ht]
    exact ⟨rfl, rfl, rfl, fun a n => by cases a <;> rfl⟩
  · rw [← queue_length, hq, List.length_nil]

/-! ### R146: a `PUSH` and then a `POP` -/

/-- A `PUSH` next, on a node that has had its reset (R7). -/
theorem step_push {s : State} {a v : Byte} {es : List Event} (hb : s.booted = true)
    (hs : s.script = .push a v :: es) : step s = .next (fifoPush a v { s with script := es }) := by
  rw [step_of_script_cons hs]
  exact if_pos hb

/-- In an empty ring in order the two indices agree, so the pair pushed is the oldest. -/
theorem head_appendPair_of_empty {s : State} (a v : Byte) (h : FifoWf s) (hc : s.count = 0) :
    (appendPair a v s).head = (a, v) := by
  have hrd : s.rd = s.wr := by
    rw [h.wrAfter, hc, State.wrap, Nat.add_zero, Nat.mod_eq_of_lt h.rdBound]
  simp [State.head, memRead_appendPair, hrd]

/-- A pair appended and the oldest taken: the count is the old one, and both indices have moved by one. -/
theorem dropHead_appendPair (a v : Byte) (s : State) :
    dropHead (appendPair a v s) = { s with
      qAddr := (appendPair a v s).qAddr, qData := (appendPair a v s).qData
      wr := s.wrap (s.wr + 1), rd := s.wrap (s.rd + 1) } := rfl

/-- A `POP` next, on a node that has had its reset and whose FIFO holds the pair just appended and no other. -/
theorem step_appendPair_of_empty {s : State} {es : List Event} (a v : Byte) (h : FifoWf s) (hb : s.booted = true)
    (hc : s.count = 0) (hs : s.script = .pop :: es) :
    step (appendPair a v s) = exec (decodeCommand s.identity a v) { s with
      qAddr := (appendPair a v s).qAddr, qData := (appendPair a v s).qData
      wr := s.wrap (s.wr + 1), rd := s.wrap (s.rd + 1), script := es } := by
  have hb' : (appendPair a v s).booted = true := (appendPair_booted s a v).trans hb
  have hs' : (appendPair a v s).script = .pop :: es := (appendPair_script s a v).trans hs
  rw [step_pop hb' hs' (Nat.succ_ne_zero _), head_appendPair_of_empty a v h hc, appendPair_identity,
    dropHead_appendPair]

/-- Settles O28: an empty FIFO has room, so the first step appends, and the second runs what it appended. -/
theorem pushThenPopRunsThePushedCommand : Obligations.PushThenPopRunsThePushedCommand := by
  unfold Obligations.PushThenPopRunsThePushedCommand
  intro s a v es i h hb hc hs hi
  have hroom : s.count ≠ s.fifoCapacity := hc ▸ (fifoCapacity_pos s).ne
  have hpush : step s = .next (appendPair a v { s with script := .pop :: es }) := by
    rw [step_push hb hs, fifoPush, makeRoom_of_room (s := { s with script := .pop :: es }) hroom]
  refine ⟨_, hpush, ?_⟩
  rw [← decodeCommand_of_decode hi]
  exact step_appendPair_of_empty a v (fifoWf_congr (s := s) rfl rfl rfl rfl rfl rfl h) hb hc rfl

end Sys2Proof.Proofs
end

section
/-! PROOFS. R153, R154: the clock equation in every step of every state that meets it. -/

namespace Sys2Proof.Proofs

open Sys2Proof.Machine Sys2Proof.Safety

/-- Settles O46, event by event (`clockWf_step`): on Pulse and Triangle a command and the sweep unit write the period
through a reprogram alone (`clockWf_command`, `clockWf_stepSweep`), and step 4 stops no clock but a Noise one
(`clockWf_stepNoiseClock`). -/
theorem stepKeepsTheClockEquation : Obligations.StepKeepsTheClockEquation := by
  unfold Obligations.StepKeepsTheClockEquation
  exact fun _ _ hclock hstep => clockWf_step hclock hstep

end Sys2Proof.Proofs
end

section
/-! PROOFS. The statements of 60_exceptions.md: nothing faults or is refused (R160), the two counters count the notes
of the trace (R161), and no rule reads the notes (D23). For the last, every operation goes through a change of the
notes: the operations of an edge and of a tick commute with it, and a command or a `PUSH` at most appends a note. -/

namespace Sys2Proof.Proofs

open Sys2Proof.Machine

/-! ### R160: every rule is total -/

theorem exec_sample_of_stopped {s : State} (hc : s.clkRunning ≠ true) : exec .sample s = .next s := if_neg hc

theorem exec_completes (i : Instr) (s : State) : ∃ t, exec i s = .next t := by
  cases i with
  | reset _ | push _ _ | frame => exact ⟨_, rfl⟩
  | pop =>
    by_cases hc : s.count = 0
    · exact ⟨s, exec_pop_of_empty hc⟩
    · rw [exec_pop_of_nonempty hc]
      exact exec_command_completes (decodeCommand_identity _ _ _) _
  | sample =>
    by_cases hc : s.clkRunning = true
    · exact ⟨_, exec_sample_of_running hc⟩
    · exact ⟨s, exec_sample_of_stopped hc⟩
  | _ => exact exec_command_completes rfl s

theorem step_completes (s : State) : ∃ t, step s = .next t := by
  cases hs : s.script with
  | nil => exact ⟨s, step_of_script_nil hs⟩
  | cons e es =>
    rw [step_of_script_cons hs]
    split
    · exact exec_completes _ _
    · exact ⟨_, rfl⟩

/-- Settles O54: a command always answers, the events that test a condition answer in both cases, and a step either
runs one of them or does nothing. -/
theorem nothingFaultsOrIsRefused : Obligations.NothingFaultsOrIsRefused := by
  unfold Obligations.NothingFaultsOrIsRefused
  exact ⟨exec_completes, step_completes⟩

/-! ### R161: the counters -/

/-- Settles O52, event by event (`notesWf_step`): a command and a full FIFO's `PUSH` write the trace and the counters
through `note` alone, which keeps them in agreement (`notesWf_note`), and no other event but a `RESET` writes them. -/
theorem stepKeepsTheNoteCounts : Obligations.StepKeepsTheNoteCounts := by
  unfold Obligations.StepKeepsTheNoteCounts
  exact fun _ _ hnotes hstep => notesWf_step hnotes hstep

/-! ### D23: an edge and a tick neither read nor write the notes -/

/-- `s` with the trace and the two counters of `q`. -/
def withNotes (q s : State) : State :=
  { s with notes := q.notes, unknownCount := q.unknownCount, overflowCount := q.overflowCount }

section
variable (q : State)

theorem withNotes_identity (s : State) : (withNotes q s).identity = s.identity := rfl

theorem stepLength_commute_withNotes : Function.Commute stepLength (withNotes q) := by
  intro s
  unfold stepLength
  rw [apply_ite (withNotes q)]
  rfl

theorem stepSweepDivider_commute_withNotes : Function.Commute stepSweepDivider (withNotes q) := by
  intro s
  unfold stepSweepDivider sweepEvaluate
  simp only [apply_ite (withNotes q)]
  rfl

theorem stepSweepReload_commute_withNotes : Function.Commute stepSweepReload (withNotes q) := by
  intro s
  unfold stepSweepReload
  rw [apply_ite (withNotes q)]
  rfl

theorem stepSweep_commute_withNotes : Function.Commute stepSweep (withNotes q) := by
  have hpulse := (stepSweepReload_commute_withNotes q).comp_left (stepSweepDivider_commute_withNotes q)
  intro s
  unfold stepSweep
  rw [withNotes_identity]
  cases s.identity with
  | pulse1 | pulse2 => exact hpulse s
  | triangle | noise => rfl

theorem envelopeTick_commute_withNotes : Function.Commute envelopeTick (withNotes q) := by
  intro s
  unfold envelopeTick
  simp only [apply_ite (withNotes q)]
  rfl

theorem stepEnvelope_commute_withNotes : Function.Commute stepEnvelope (withNotes q) := by
  intro s
  unfold stepEnvelope
  rw [withNotes_identity]
  cases s.identity with
  | pulse1 | pulse2 | noise => exact envelopeTick_commute_withNotes q s
  | triangle => rfl

theorem stepLinear_commute_withNotes : Function.Commute stepLinear (withNotes q) := by
  intro s
  unfold stepLinear
  rw [withNotes_identity]
  cases s.identity <;> rfl

theorem stepVolume_commute_withNotes : Function.Commute stepVolume (withNotes q) := by
  intro s
  unfold stepVolume
  rw [apply_ite (withNotes q), withNotes_identity]
  cases s.identity <;> rfl

theorem stepNoiseClock_commute_withNotes : Function.Commute stepNoiseClock (withNotes q) := by
  intro s
  unfold stepNoiseClock
  rw [withNotes_identity]
  cases s.identity with
  | noise =>
    dsimp only
    rw [apply_ite (withNotes q)]
    rfl
  | pulse1 | pulse2 | triangle => rfl

theorem halfFramePart_commute_withNotes : Function.Commute halfFramePart (withNotes q) := by
  have hsteps := (stepSweep_commute_withNotes q).comp_left (stepLength_commute_withNotes q)
  intro s
  unfold halfFramePart
  rw [apply_ite (withNotes q)]
  exact if_congr Iff.rfl (hsteps (toggleParity s)) rfl

theorem quarterFrameSteps_commute_withNotes : Function.Commute quarterFrameSteps (withNotes q) :=
  (stepNoiseClock_commute_withNotes q).comp_left ((stepVolume_commute_withNotes q).comp_left
    ((stepLinear_commute_withNotes q).comp_left (stepEnvelope_commute_withNotes q)))

theorem frameEdge_commute_withNotes : Function.Commute frameEdge (withNotes q) := by
  have hedge := (quarterFrameSteps_commute_withNotes q).comp_left (halfFramePart_commute_withNotes q)
  intro s
  rw [frameEdge_eq, frameEdge_eq]
  exact hedge s

theorem triangleTick_commute_withNotes : Function.Commute triangleTick (withNotes q) := by
  intro s
  unfold triangleTick
  rw [apply_ite (withNotes q)]
  rfl

theorem sampleTick_commute_withNotes : Function.Commute sampleTick (withNotes q) := by
  intro s
  unfold sampleTick
  rw [withNotes_identity]
  cases s.identity with
  | triangle => exact triangleTick_commute_withNotes q s
  | pulse1 | pulse2 | noise => rfl

/-! ### D23: a command and a `PUSH` at most append a note -/

/-- A `PUSH` drops the same pair, with its note after whatever trace there is (R142). -/
theorem fifoPush_withNotes (a v : Byte) (s : State) :
    ∃ q', fifoPush a v (withNotes q s) = withNotes q' (fifoPush a v s) := by
  by_cases hfull : s.count = s.fifoCapacity
  · refine ⟨note (.fifoOverflow s.head.1 s.head.2) q, ?_⟩
    rw [fifoPush, fifoPush, makeRoom_of_full hfull, makeRoom_of_full (s := withNotes q s) hfull]
    rfl
  · refine ⟨q, ?_⟩
    rw [fifoPush, fifoPush, makeRoom_of_room hfull, makeRoom_of_room (s := withNotes q s) hfull]
    rfl

variable {s t : State}

/-- Reg1 of Triangle and Noise and the unknown addresses append their note (R98); no other command writes the trace
or a counter. -/
theorem exec_command_withNotes {i : Instr} {id : Identity} (hi : i.identity = some id) (h : exec i s = .next t) :
    ∃ q', exec i (withNotes q s) = .next (withNotes q' t) := by
  cases i with
  | reset _ | push _ _ | pop | frame | sample => cases hi
  | triReg1 v => cases h; exact ⟨unknownCommand 0x09 v q, rfl⟩
  | noiReg1 v => cases h; exact ⟨unknownCommand 0x0D v q, rfl⟩
  | p1Unk a v | p2Unk a v | triUnk a v | noiUnk a v => cases h; exact ⟨unknownCommand a v q, rfl⟩
  | _ => cases h; exact ⟨q, rfl⟩

/-- Every instruction runs from the state with other notes to what it leaves anyway, with some notes. -/
theorem exec_withNotes {i : Instr} (h : exec i s = .next t) :
    ∃ q', exec i (withNotes q s) = .next (withNotes q' t) := by
  cases i with
  | reset _ => cases h; exact ⟨State.reset, rfl⟩
  | push a v =>
    cases h
    obtain ⟨q', hpush⟩ := fifoPush_withNotes q a v s
    exact ⟨q', congrArg Host.Outcome.next hpush⟩
  | pop =>
    obtain ⟨hc, rfl⟩ | ⟨hc, h⟩ := exec_pop_cases h
    · exact ⟨q, exec_pop_of_empty hc⟩
    · rw [exec_pop_of_nonempty (s := withNotes q s) hc]
      exact exec_command_withNotes q (decodeCommand_identity _ _ _) h
  | frame => cases h; exact ⟨q, congrArg Host.Outcome.next (frameEdge_commute_withNotes q s)⟩
  | sample =>
    obtain ⟨hc, rfl⟩ | ⟨hc, rfl⟩ := exec_sample_cases h
    · exact ⟨q, (exec_sample_of_running (s := withNotes q s) hc).trans
        (congrArg Host.Outcome.next (sampleTick_commute_withNotes q s))⟩
    · exact ⟨q, exec_sample_of_stopped hc⟩
  | _ => exact exec_command_withNotes q rfl h

end

/-- Settles O60: the other state goes to the same state with some notes (`exec_withNotes`), and putting this one's
notes back gives this one. -/
theorem notesFeedNothingBack : Obligations.NotesFeedNothingBack := by
  unfold Obligations.NotesFeedNothingBack
  intro i s t ns m n h
  obtain ⟨q', hrun⟩ := exec_withNotes { s with notes := ns, unknownCount := m, overflowCount := n } h
  exact ⟨withNotes q' t, hrun, rfl⟩

end Sys2Proof.Proofs
end

section
/-! PROOFS. The statements of 70_reset_and_hazards.md: what a `RESET` leaves (R180), that it leaves a safe state, what
frame edges make of it (R181), and what starts a stopped Noise clock (R186). -/

namespace Sys2Proof.Proofs

open Sys2Proof.Machine Sys2Proof.Safety

/-! ### R186, D16: what starts a stopped Noise clock -/

/-- A step that does more than spend an event runs an event other than `POP`, or the command of the oldest pair. -/
theorem step_cases_pop {s t : State} (h : step s = .next t) :
    (t = s ∨ t = s.advance) ∨ (∃ e : Event, e ≠ .pop ∧ exec e.toInstr s.advance = .next t) ∨
    (∃ es, s.script = .pop :: es ∧ s.count ≠ 0 ∧
      exec (decodeCommand s.identity s.head.1 s.head.2) (dropHead s.advance) = .next t) := by
  obtain ⟨-, rfl⟩ | ⟨e, -, -, rfl⟩ | ⟨e, hn, -, h⟩ := step_cases h
  · exact .inl (.inl rfl)
  · exact .inl (.inr rfl)
  by_cases he : e = .pop
  · subst he
    obtain ⟨es, hs⟩ := nextEvent_eq_some.1 hn
    obtain ⟨-, rfl⟩ | ⟨hc, h⟩ := exec_pop_cases h
    · exact .inl (.inr rfl)
    · exact .inr (.inr ⟨es, hs, hc, h⟩)
  · exact .inr (.inl ⟨e, he, h⟩)

/-- Of the commands of a Noise node only Reg2 writes the run bit (R95, R96). -/
theorem exec_decodeCommand_noise_clkRunning {a v : Byte} {s t : State} (ha : classify .noise a ≠ .reg2)
    (h : exec (decodeCommand .noise a v) s = .next t) : t.clkRunning = s.clkRunning := by
  unfold decodeCommand at h
  cases hclass : classify .noise a with
  | reg2 => exact absurd hclass ha
  | _ =>
    rw [hclass] at h
    cases h
    rfl

/-- No event but a `POP` starts the stopped clock of a Noise node: an edge can only stop it (R119). -/
theorem exec_event_clkRunning_of_noise {e : Event} {s t : State} (he : e ≠ .pop) (hid : s.identity = .noise)
    (hstopped : s.clkRunning = false) (h : exec e.toInstr s = .next t) : t.clkRunning = false := by
  cases e with
  | pop => exact absurd rfl he
  | reset cfg => cases h; rfl
  | push a v => cases h; rw [fifoPush_eq_withIngest]; exact hstopped
  | frame =>
    obtain ⟨u, hu, hmuted, hsounding, -, -⟩ := frameStopsAMutedNoiseClock s hid
    obtain rfl : u = t := by injection hu.symm.trans h
    by_cases hv : u.volume = 0
    · exact hmuted hv
    · exact (hsounding hv).trans hstopped
  | sample =>
    obtain ⟨hrunning, -⟩ | ⟨-, rfl⟩ := exec_sample_cases h
    · simp [hstopped] at hrunning
    · exact hstopped

/-- Settles O57: no other event starts the clock (`exec_event_clkRunning_of_noise`), and of the commands that a `POP`
can run only Reg2 does, whose address on Noise is 0x0E. -/
theorem onlyReg2StartsANoiseClock : Obligations.OnlyReg2StartsANoiseClock := by
  unfold Obligations.OnlyReg2StartsANoiseClock
  intro s t hid hstopped h hstarted
  have hne : t.clkRunning ≠ false := by simp [hstarted]
  obtain (rfl | rfl) | ⟨e, he, h⟩ | ⟨es, hs, hc, h⟩ := step_cases_pop h
  · exact absurd hstopped hne
  · exact absurd hstopped hne
  · exact absurd (exec_event_clkRunning_of_noise (s := s.advance) he hid hstopped h) hne
  rw [hid] at h
  have hreg2 : classify .noise (s.memRead .addr s.rd) = .reg2 := by
    by_contra hother
    exact hne ((exec_decodeCommand_noise_clkRunning hother h).trans hstopped)
  obtain ⟨-, -, hbase, -, -⟩ := classify_reg_iff .noise (s.memRead .addr s.rd)
  exact ⟨es, hs, hc, hbase.1 hreg2⟩

/-! ### R180: the values after a reset -/

/-- `IDENTITY_MAP` as a list (R5, D1). -/
theorem identityMap_eq_getD (cfg : BitVec 2) :
    identityMap cfg = [Identity.pulse1, .pulse2, .triangle, .noise].getD cfg.toNat .pulse1 := by
  revert cfg
  decide

theorem exec_reset (cfg : BitVec 2) (s : State) :
    exec (.reset cfg) s = .next (State.boot cfg s.fifoLog2 s.lengthTable s.script) := rfl

/-- Settles O22: the fields of `State.boot`, with the identity read from a list. -/
theorem resetLeavesTheStatedValues : Obligations.ResetLeavesTheStatedValues := by
  unfold Obligations.ResetLeavesTheStatedValues
  refine ⟨fun cfg s => ?_, Config.resetCfg, exec_reset _ _⟩
  rw [exec_reset, ← identityMap_eq_getD]
  rfl

/-- What a `RESET` leaves is safe if its length table meets the constraints: the FIFO is empty, and the zeros meet every
equation and range. -/
theorem safe_boot {cfg : BitVec 2} {k : Nat} {table : LengthTable} {es : List Event}
    (htable : TableWf (State.boot cfg k table es)) : Safe (State.boot cfg k table es) where
  fifo := (ringWf_boot cfg k table es).order
  occupied := (ringWf_boot cfg k table es).occupied
  bounded := (ringWf_boot cfg k table es).bounded
  table := htable
  clock := clockWf_boot cfg k table es
  mute := fun _ => rfl
  lfsr := (rangeWf_boot cfg k table es).lfsr
  range := rangeWf_boot cfg k table es
  fields := identityWf_boot cfg k table es
  notes := ⟨rfl, rfl⟩

/-- Settles O23: a `RESET` keeps the length table, so `safe_boot` is about the one that the node has. -/
theorem resetStateIsSafe : Obligations.ResetStateIsSafe := by
  unfold Obligations.ResetStateIsSafe
  refine ⟨fun cfg s t htable h => ?_, safe_boot tableWf_reset⟩
  rw [exec_reset] at h
  cases h
  exact safe_boot (tableWf_congr (s := s) rfl htable)

/-! ### R181: frame edges in the reset state -/

/-- The reset state with `frame_parity` at a given value: what the edges of a node that has had no command and no
other event after its reset go through. -/
def idle (cfg : BitVec 2) (k : Nat) (table : LengthTable) (es : List Event) (parity : Bool) : State :=
  { State.boot cfg k table es with frameParity := parity }

section
variable (cfg : BitVec 2) (k : Nat) (table : LengthTable) (es : List Event) (parity : Bool)

theorem stepLength_idle : stepLength (idle cfg k table es parity) = idle cfg k table es parity := rfl

/-- The divider counter is 0, so the sweep unit is evaluated; a period of 0 mutes a volume that is 0 (R114). -/
theorem stepSweep_idle : stepSweep (idle cfg k table es parity) = idle cfg k table es parity := by
  unfold idle State.boot
  cases identityMap cfg <;> rfl

theorem stepEnvelope_idle : stepEnvelope (idle cfg k table es parity) = idle cfg k table es parity := by
  unfold idle State.boot
  cases identityMap cfg <;> rfl

theorem stepLinear_idle : stepLinear (idle cfg k table es parity) = idle cfg k table es parity := by
  unfold idle State.boot
  cases identityMap cfg <;> rfl

theorem stepVolume_idle : stepVolume (idle cfg k table es parity) = idle cfg k table es parity := rfl

theorem stepNoiseClock_idle : stepNoiseClock (idle cfg k table es parity) = idle cfg k table es parity := by
  unfold idle State.boot
  cases identityMap cfg <;> rfl

/-- Every step of an edge leaves an idle state as it is, so the toggle is all that an edge does (R110, R181). -/
theorem frameEdge_idle : frameEdge (idle cfg k table es parity) = idle cfg k table es (!parity) := by
  obtain ⟨p, hp⟩ : ∃ p, frameEdge (idle cfg k table es parity) = idle cfg k table es p := by
    refine frameEdge_keeps (fun u => ∃ p, u = idle cfg k table es p)
      ?htoggle ?hlength ?hsweep ?henvelope ?hlinear ?hvolume ?hclock _ ⟨parity, rfl⟩ <;> rintro _ ⟨p, rfl⟩
    case htoggle => exact ⟨!p, rfl⟩
    case hlength => exact ⟨p, stepLength_idle ..⟩
    case hsweep => exact ⟨p, stepSweep_idle ..⟩
    case henvelope => exact ⟨p, stepEnvelope_idle ..⟩
    case hlinear => exact ⟨p, stepLinear_idle ..⟩
    case hvolume => exact ⟨p, stepVolume_idle ..⟩
    case hclock => exact ⟨p, stepNoiseClock_idle ..⟩
  have hparity : (frameEdge (idle cfg k table es parity)).frameParity = !parity := frameEdge_frameParity _
  rw [hp] at hparity
  rw [hp, ← hparity]
  rfl

end

/-- Settles O24: `RESET` leaves an idle state with parity 0, and `frameEdge_idle` says what each edge makes of it. -/
theorem frameAfterResetOnlyTogglesParity : Obligations.FrameAfterResetOnlyTogglesParity := by
  unfold Obligations.FrameAfterResetOnlyTogglesParity
  intro cfg s r h
  rw [exec_reset] at h
  cases h
  exact ⟨congrArg Host.Outcome.next (frameEdge_idle cfg _ _ _ false),
    congrArg Host.Outcome.next (frameEdge_idle cfg _ _ _ true)⟩

end Sys2Proof.Proofs
end

section
/-! PROOFS. Sample words of 30_encoding.md. The fields of a word pack to its value byte by the tables of R62, which is a
closed computation; that the word then decodes to its command is the round trip `decode_encode`. -/

namespace Sys2Proof.Proofs

/-- The round trip for one word with nothing after it (R60). -/
theorem decode_word_of_encode {i : Instr} {id : Identity} {a v : Byte} (hwf : i.wellFormed = true)
    (hid : i.identity = some id) (hword : encode i = some [a, v]) : decode id [a, v] = .ok (i, []) :=
  decode_encode hwf hid hword []

/-- Settles O1: each word is the encoding of its command, and the two UNKNOWN addresses are outside the node's window. -/
theorem decodesSampleWordsAsTheMapSays : Obligations.DecodesSampleWordsAsTheMapSays := by
  unfold Obligations.DecodesSampleWordsAsTheMapSays
  refine ⟨?p1Reg0, ?p1Reg1, ?p2Reg1, ?p2Reg3, ?triReg0, ?triReg3, ?noiReg0, ?noiReg2, ?noiReg3, ?triEn, ?p1Unk, ?noiUnk⟩
  case p1Unk => exact decode_word_of_encode (by decide : unclaimed .pulse1 0x04 = true) rfl rfl
  case noiUnk => exact decode_word_of_encode (by decide : unclaimed .noise 0x17 = true) rfl rfl
  all_goals exact decode_word_of_encode rfl rfl rfl

end Sys2Proof.Proofs
end
